-- ==== Sys2Proof/Word.lean ====
section
/-! DEFINITION. The machine's two word types (00_scope.md R8: 8-bit data, 16-bit addresses and program counter). -/

namespace Sys2Proof

/-- A `u8`: data, A, X, Y, SP and P (00_scope.md R8, R10). -/
abbrev Byte := BitVec 8

/-- A `u16`: addresses and PC (00_scope.md R8, R10). Its addition wraps mod 2^16. -/
abbrev Word := BitVec 16

end Sys2Proof
end

