-- ==== Sys2Proof/Machine/Alu.lean ====
section
/-! DEFINITION. The ALU as pure functions of bytes and a carry: exact integer arithmetic, narrowed at the end
(41_alu.md R171 to R174, R178 to R183, R186). -/

namespace Sys2Proof.Machine

/-- A result `(r, C, V)` of an addition or subtraction. -/
structure AluResult where
  r : Byte
  c : Bool
  v : Bool
deriving DecidableEq, Repr

/-- The overflow formula of an addition with result `r` (41_alu.md R171). -/
def addOverflow (a m r : Byte) : Bool := (~~~(a ^^^ m) &&& (a ^^^ r)) &&& 0x80 != 0

/-- The overflow formula of a subtraction with result `r` (41_alu.md R172). -/
def subOverflow (a m r : Byte) : Bool := ((a ^^^ m) &&& (a ^^^ r)) &&& 0x80 != 0

/-- `AddBin(a, m, c)` (41_alu.md R171). -/
def addBin (a m : Byte) (c : Bool) : AluResult :=
  let sum := a.toNat + m.toNat + c.toNat
  let r := BitVec.ofNat 8 sum
  { r := r, c := decide (0xFF < sum), v := addOverflow a m r }

/-- `SubBin(a, m, c)`: addition of the one's complement, with C = 1 meaning no borrow (41_alu.md R172). -/
def subBin (a m : Byte) (c : Bool) : AluResult :=
  let sum := a.toNat + (m ^^^ 0xFF).toNat + c.toNat
  let r := BitVec.ofNat 8 sum
  { r := r, c := decide (0xFF < sum), v := subOverflow a m r }

/-- The low nibble of a byte, as a number. -/
def loNibble (b : Byte) : Nat := b.toNat % 16

/-- The high nibble of a byte, as a number. -/
def hiNibble (b : Byte) : Nat := b.toNat / 16

/-- `AddDec(a, m, c)`: nibble-wise addition with +6 on a nibble above 9, C and V from the corrected result (41_alu.md
R173). -/
def addDec (a m : Byte) (c : Bool) : AluResult :=
  let lo := loNibble a + loNibble m + c.toNat
  let lo := if 9 < lo then lo + 6 else lo
  let hi := hiNibble a + hiNibble m + (if 0x0F < lo then 1 else 0)
  let hi := if 9 < hi then hi + 6 else hi
  let r := BitVec.ofNat 8 (hi % 16 * 16 + lo % 16)
  { r := r, c := decide (0x0F < hi), v := addOverflow a m r }

/-- `SubDec(a, m, c)`: nibble-wise subtraction with borrow `1 - c` and -6 on a nibble below zero, V from the corrected
result (41_alu.md R174). -/
def subDec (a m : Byte) (c : Bool) : AluResult :=
  let lo : Int := (loNibble a : Int) - loNibble m - (1 - c.toNat)
  let b : Int := if lo < 0 then 1 else 0
  let lo := if lo < 0 then lo - 6 else lo
  let hi : Int := (hiNibble a : Int) - hiNibble m - b
  let noBorrow := decide (0 ≤ hi)
  let hi := if hi < 0 then hi - 6 else hi
  let r := BitVec.ofNat 8 ((hi % 16).toNat * 16 + (lo % 16).toNat)
  { r := r, c := noBorrow, v := subOverflow a m r }

/-- Whether both nibbles of a byte are decimal digits (41_alu.md R186). -/
def isBcd (b : Byte) : Bool := decide (loNibble b ≤ 9) && decide (hiNibble b ≤ 9)

/-- A shift or rotate gives its result and the bit it shifts out, which becomes C (41_alu.md R178 to R181). -/
structure ShiftResult where
  r : Byte
  out : Bool
deriving DecidableEq, Repr

/-- `ASL_op`: the bit shifted in is 0 (41_alu.md R178). -/
def asl (v : Byte) : ShiftResult := { r := v <<< 1, out := v.getLsbD 7 }

/-- `LSR_op`: bit 7 of the result is 0 (41_alu.md R179). -/
def lsr (v : Byte) : ShiftResult := { r := v >>> 1, out := v.getLsbD 0 }

/-- `ROL_op`: the old carry enters bit 0 (41_alu.md R180). -/
def rol (v : Byte) (c : Bool) : ShiftResult :=
  { r := (v <<< 1) ||| BitVec.ofNat 8 c.toNat, out := v.getLsbD 7 }

/-- `ROR_op`: the old carry enters bit 7 (41_alu.md R181). -/
def ror (v : Byte) (c : Bool) : ShiftResult :=
  { r := (v >>> 1) ||| (BitVec.ofNat 8 c.toNat <<< 7), out := v.getLsbD 0 }

/-- `Inc(v)` (41_alu.md R182). -/
def inc (v : Byte) : Byte := v + 1

/-- `Dec(v)` (41_alu.md R182). -/
def dec (v : Byte) : Byte := v - 1

end Sys2Proof.Machine
end

