-- ==== Sys2Proof/Config.lean ====
section
/-! DEFINITION. What an implementation fixes and what the spec leaves open: the named parameters of 00_scope.md R9 as plain
data, and the free values as opaque constants (93_implementation_defined.md part 1). -/

namespace Sys2Proof

/-- `TRAP_JSR_ORDER` (60_exceptions.md R441): whether JSR pushes its return address before or after the trap hook. OPEN. -/
inductive TrapJsrOrder where
  | pushThenHook
  | hookThenPush
deriving DecidableEq, Repr

/-- `DEC_NONBCD` (41_alu.md R186): what a decimal ADC or SBC gives on a non-BCD nibble. -/
inductive DecNonBcd where
  | spec  -- the value of 41_alu.md R173 and R174
  | draw  -- any result and any C, Z, V, N
deriving DecidableEq, Repr

/-- The addresses from `lo` to `hi`, both included. -/
structure Region where
  lo : Word
  hi : Word
deriving DecidableEq, Repr

/-- The parameters of 00_scope.md R9 that are not draws. They stand in the state as data that no instruction writes, so that a
statement about every state covers every choice of them.

`MEM_ENV` (20_memory.md R71) is the list of the regions whose `peek` and `poke` the environment answers itself: I/O registers,
banked memory, and every address that an access elsewhere has a side effect on. There a read returns the environment's next
answer, any byte, and a write goes to the environment. The block meets a side effect in what later reads return and in no
other way, so a list of answers says what any environment does. The empty list is plain RAM, the default. -/
structure Params where
  memEnv : List Region        -- `MEM_ENV`
  admitT3 : Bool              -- `ADMIT_T3`
  traps : List Word           -- `TRAPS`, in strictly rising order (60_exceptions.md R442)
  trapJsrOrder : TrapJsrOrder -- `TRAP_JSR_ORDER`
  decNonBcd : DecNonBcd       -- `DEC_NONBCD`
deriving DecidableEq, Repr

/-- The result of a decimal ADC or SBC under `DEC_NONBCD` = Draw (41_alu.md R186, 93_implementation_defined.md item 8). -/
structure DecimalDraw where
  r : Byte
  c : Bool
  z : Bool
  v : Bool
  n : Bool
deriving DecidableEq, Repr, Inhabited

/-- What `reset()` leaves open: `RESET_A`, `RESET_X`, `RESET_Y`, `RESET_P` (10_state.md R51) and the three latches (R47). -/
structure ResetDraw where
  a : Byte
  x : Byte
  y : Byte
  p : Byte
  opcode : Byte
  ea : Word
  ra : Byte
deriving DecidableEq, Repr, Inhabited

/-- What is open at an instruction boundary: the three latches (10_state.md R47) and the cycle-budget counter `debt` (R48,
93_implementation_defined.md items 3 and 4). -/
structure BoundaryDraw where
  opcode : Byte
  ea : Word
  ra : Byte
  debt : Int
deriving DecidableEq, Repr, Inhabited

/-- What a trap callback returns (60_exceptions.md R440). -/
inductive TrapOutcome where
  | redirect
  | fallThrough
deriving DecidableEq, Repr, Inhabited

/-- One call of the environment, between two core steps or inside a trap callback (00_scope.md R7, 60_exceptions.md R422,
R432). None of them redirects control: an interrupt and a reset enter at a fixed vector (R434). -/
inductive HostCall where
  | fastclock                  -- one instruction, unconditionally (70_reset_and_hazards.md R475)
  | clock (runs : Bool)        -- a metered call: one instruction or none, at the host's choice (R476)
  | irq                        -- 60_exceptions.md R423
  | nmi                        -- 60_exceptions.md R424
  | reset                      -- 70_reset_and_hazards.md R470
  | peek (a : Word)            -- a host read (20_memory.md R85)
  | poke (a : Word) (v : Byte) -- a host write (20_memory.md R85)
  | setpatch (t : Word)        -- a new trap address (60_exceptions.md R442)
deriving DecidableEq, Repr

/-- A write of a register by the host: "the host may write any of A, X, Y, SP, P (bit 5 stays 1), PC" inside a trap callback
(60_exceptions.md R440), and nowhere else (R434). -/
inductive RegWrite where
  | a (v : Byte)
  | x (v : Byte)
  | y (v : Byte)
  | sp (v : Byte)
  | p (v : Byte)
  | pc (w : Word)
deriving DecidableEq, Repr

/-- What the host does inside a trap callback: any call, further steps, interrupts and new trap addresses among them
(60_exceptions.md R432), or a write of a register (R440). -/
inductive CallbackCall where
  | call (c : HostCall)
  | write (w : RegWrite)
deriving DecidableEq, Repr

/-- One trap callback: what the host does in it, in order, and what it returns (60_exceptions.md R440). -/
structure TrapEffect where
  calls : List CallbackCall
  outcome : TrapOutcome
deriving DecidableEq, Repr, Inhabited

/-! The free values. Each is applied to the state's draw counter, so each use is a fresh value that nothing constrains. -/

/-- `DEC_NONBCD` = Draw: "any u8 result and any C, Z, V, N" (92_eei_decisions.md D19). -/
opaque Config.decimalDraw : Nat → DecimalDraw

/-- "fresh unspecified draws ... at every reset" (92_eei_decisions.md D9). -/
opaque Config.resetDraw : Nat → ResetDraw

/-- Latch values at a boundary "are unspecified and unobservable" (92_eei_decisions.md D30); `debt` is "any value"
(93_implementation_defined.md item 4). -/
opaque Config.boundaryDraw : Nat → BoundaryDraw

/-- What a read returns at an address that `MEM_ENV` answers (20_memory.md R71, 93_implementation_defined.md item 9). -/
opaque Config.memDraw : Nat → Byte

/-- A callback with no specification: "a model takes them as arbitrary values (a havoc of the state)" (60_exceptions.md
R440). -/
opaque Config.trapDraw : Nat → TrapEffect

end Sys2Proof
end

