-- ==== Sys2Proof/Syntax.lean ====
section
/-! DEFINITION. The instruction set as syntax: mnemonics, the 13 addressing modes, operands, opcode tiers, and Instr with
one constructor per row of spec/opcode_table.json (30_encoding.md R100, R101, R103, R104, R106). -/

namespace Sys2Proof

/-- The identities of 30_encoding.md R104: the 56 documented mnemonics, the eight T2 families, and the spec's labels of the
refused bytes. -/
inductive Mnemonic where
  -- Loads, stores and transfers (42_load_store_transfer.md)
  | lda | ldx | ldy | sta | stx | sty | tax | tay | txa | tya | tsx | txs
  -- Arithmetic, logic, compare and increment (43_arith_logic.md)
  | adc | sbc | and | ora | eor | cmp | cpx | cpy | bit | inc | dec | inx
  | iny | dex | dey
  -- Shifts and rotates (44_shift_rotate.md)
  | asl | lsr | rol | ror
  -- Branches, jumps and subroutines (45_control.md)
  | bpl | bmi | bvc | bvs | bcc | bcs | bne | beq | jmp | jsr | rts
  -- Stack, flag and system instructions (46_stack_flags_system.md)
  | pha | pla | php | plp | clc | sec | cli | sei | cld | sed | clv | nop
  | brk | rti
  -- The eight undocumented families of tier T2 (47_undocumented.md section 1)
  | slo | rla | sre | rra | sax | lax | dcp | isb
  -- The labels of the refused tier T4 (47_undocumented.md section 3)
  | jam | anc | alr | arr | xaa | lxa | axs | sha | tas | shy | shx | las
deriving DecidableEq, Repr

/-- The 13 addressing modes, under their spec keys (30_encoding.md R101). -/
inductive Mode where
  | imp | acc | imm | zp | zpx | zpy | rel | indx | indy | abs | absx | absy | ind
deriving DecidableEq, Repr

/-- An addressing mode with the operand value assembled from the operand bytes (30_encoding.md R101, R102). A 16-bit operand
is held assembled; a zero-page operand is held as its byte and a displacement as its raw byte. -/
inductive Operand where
  | imp              -- no operand
  | acc              -- the accumulator
  | imm (v : Byte)   -- the 8-bit value
  | zp (z : Byte)    -- a zero-page address
  | zpx (z : Byte)   -- a zero-page base, indexed by X
  | zpy (z : Byte)   -- a zero-page base, indexed by Y
  | rel (d : Byte)   -- a signed displacement, the raw offset `ra`
  | indx (z : Byte)  -- a zero-page pointer base, indexed by X before the pointer is read
  | indy (z : Byte)  -- a zero-page pointer; Y is added after it is read
  | abs (w : Word)   -- an address
  | absx (w : Word)  -- a base address, indexed by X
  | absy (w : Word)  -- a base address, indexed by Y
  | ind (w : Word)   -- the address of a pointer
deriving DecidableEq, Repr

/-- The mode of an operand. -/
def Operand.mode : Operand → Mode
  | .imp => .imp
  | .acc => .acc
  | .imm _ => .imm
  | .zp _ => .zp
  | .zpx _ => .zpx
  | .zpy _ => .zpy
  | .rel _ => .rel
  | .indx _ => .indx
  | .indy _ => .indy
  | .abs _ => .abs
  | .absx _ => .absx
  | .absy _ => .absy
  | .ind _ => .ind

/-- How many operand bytes follow the opcode byte: the mode alone fixes it (30_encoding.md R100, R101). -/
def Mode.operandBytes : Mode → Nat
  | .imp | .acc => 0
  | .imm | .zp | .zpx | .zpy | .rel | .indx | .indy => 1
  | .abs | .absx | .absy | .ind => 2

/-- The length of an instruction in bytes (30_encoding.md R109). -/
def Mode.length (m : Mode) : Nat := m.operandBytes + 1

/-- The tiers of opcode bytes (00_scope.md R17, 30_encoding.md R106): documented, the eight named undocumented families, the
undocumented NOPs and the SBC alias, and the refused bytes. -/
inductive Tier where
  | t1 | t2 | t3 | t4
deriving DecidableEq, Repr

/-- The instructions, one constructor per row of spec/opcode_table.json: a mnemonic with its mode, and the opcode byte in the
name where two rows share both. The rows with operands stand first, since Lean's run time numbers only so many constructors
that hold fields. Field widths are the operand's own, so every term is an instruction. -/
inductive Instr where
  -- Rows with operand bytes (formats F2 and F3), by opcode byte
  | oraIndx (z : Byte)  -- $01
  | sloIndx (z : Byte)  -- $03
  | nopZp04 (z : Byte)  -- $04
  | oraZp (z : Byte)  -- $05
  | aslZp (z : Byte)  -- $06
  | sloZp (z : Byte)  -- $07
  | oraImm (v : Byte)  -- $09
  | ancImm0B (v : Byte)  -- $0B
  | nopAbs0C (w : Word)  -- $0C
  | oraAbs (w : Word)  -- $0D
  | aslAbs (w : Word)  -- $0E
  | sloAbs (w : Word)  -- $0F
  | bplRel (d : Byte)  -- $10
  | oraIndy (z : Byte)  -- $11
  | sloIndy (z : Byte)  -- $13
  | nopZpx14 (z : Byte)  -- $14
  | oraZpx (z : Byte)  -- $15
  | aslZpx (z : Byte)  -- $16
  | sloZpx (z : Byte)  -- $17
  | oraAbsy (w : Word)  -- $19
  | sloAbsy (w : Word)  -- $1B
  | nopAbsx1C (w : Word)  -- $1C
  | oraAbsx (w : Word)  -- $1D
  | aslAbsx (w : Word)  -- $1E
  | sloAbsx (w : Word)  -- $1F
  | jsrAbs (w : Word)  -- $20
  | andIndx (z : Byte)  -- $21
  | rlaIndx (z : Byte)  -- $23
  | bitZp (z : Byte)  -- $24
  | andZp (z : Byte)  -- $25
  | rolZp (z : Byte)  -- $26
  | rlaZp (z : Byte)  -- $27
  | andImm (v : Byte)  -- $29
  | ancImm2B (v : Byte)  -- $2B
  | bitAbs (w : Word)  -- $2C
  | andAbs (w : Word)  -- $2D
  | rolAbs (w : Word)  -- $2E
  | rlaAbs (w : Word)  -- $2F
  | bmiRel (d : Byte)  -- $30
  | andIndy (z : Byte)  -- $31
  | rlaIndy (z : Byte)  -- $33
  | nopZpx34 (z : Byte)  -- $34
  | andZpx (z : Byte)  -- $35
  | rolZpx (z : Byte)  -- $36
  | rlaZpx (z : Byte)  -- $37
  | andAbsy (w : Word)  -- $39
  | rlaAbsy (w : Word)  -- $3B
  | nopAbsx3C (w : Word)  -- $3C
  | andAbsx (w : Word)  -- $3D
  | rolAbsx (w : Word)  -- $3E
  | rlaAbsx (w : Word)  -- $3F
  | eorIndx (z : Byte)  -- $41
  | sreIndx (z : Byte)  -- $43
  | nopZp44 (z : Byte)  -- $44
  | eorZp (z : Byte)  -- $45
  | lsrZp (z : Byte)  -- $46
  | sreZp (z : Byte)  -- $47
  | eorImm (v : Byte)  -- $49
  | alrImm (v : Byte)  -- $4B
  | jmpAbs (w : Word)  -- $4C
  | eorAbs (w : Word)  -- $4D
  | lsrAbs (w : Word)  -- $4E
  | sreAbs (w : Word)  -- $4F
  | bvcRel (d : Byte)  -- $50
  | eorIndy (z : Byte)  -- $51
  | sreIndy (z : Byte)  -- $53
  | nopZpx54 (z : Byte)  -- $54
  | eorZpx (z : Byte)  -- $55
  | lsrZpx (z : Byte)  -- $56
  | sreZpx (z : Byte)  -- $57
  | eorAbsy (w : Word)  -- $59
  | sreAbsy (w : Word)  -- $5B
  | nopAbsx5C (w : Word)  -- $5C
  | eorAbsx (w : Word)  -- $5D
  | lsrAbsx (w : Word)  -- $5E
  | sreAbsx (w : Word)  -- $5F
  | adcIndx (z : Byte)  -- $61
  | rraIndx (z : Byte)  -- $63
  | nopZp64 (z : Byte)  -- $64
  | adcZp (z : Byte)  -- $65
  | rorZp (z : Byte)  -- $66
  | rraZp (z : Byte)  -- $67
  | adcImm (v : Byte)  -- $69
  | arrImm (v : Byte)  -- $6B
  | jmpInd (w : Word)  -- $6C
  | adcAbs (w : Word)  -- $6D
  | rorAbs (w : Word)  -- $6E
  | rraAbs (w : Word)  -- $6F
  | bvsRel (d : Byte)  -- $70
  | adcIndy (z : Byte)  -- $71
  | rraIndy (z : Byte)  -- $73
  | nopZpx74 (z : Byte)  -- $74
  | adcZpx (z : Byte)  -- $75
  | rorZpx (z : Byte)  -- $76
  | rraZpx (z : Byte)  -- $77
  | adcAbsy (w : Word)  -- $79
  | rraAbsy (w : Word)  -- $7B
  | nopAbsx7C (w : Word)  -- $7C
  | adcAbsx (w : Word)  -- $7D
  | rorAbsx (w : Word)  -- $7E
  | rraAbsx (w : Word)  -- $7F
  | nopImm80 (v : Byte)  -- $80
  | staIndx (z : Byte)  -- $81
  | nopImm82 (v : Byte)  -- $82
  | saxIndx (z : Byte)  -- $83
  | styZp (z : Byte)  -- $84
  | staZp (z : Byte)  -- $85
  | stxZp (z : Byte)  -- $86
  | saxZp (z : Byte)  -- $87
  | nopImm89 (v : Byte)  -- $89
  | xaaImm (v : Byte)  -- $8B
  | styAbs (w : Word)  -- $8C
  | staAbs (w : Word)  -- $8D
  | stxAbs (w : Word)  -- $8E
  | saxAbs (w : Word)  -- $8F
  | bccRel (d : Byte)  -- $90
  | staIndy (z : Byte)  -- $91
  | shaIndy (z : Byte)  -- $93
  | styZpx (z : Byte)  -- $94
  | staZpx (z : Byte)  -- $95
  | stxZpy (z : Byte)  -- $96
  | saxZpy (z : Byte)  -- $97
  | staAbsy (w : Word)  -- $99
  | tasAbsy (w : Word)  -- $9B
  | shyAbsx (w : Word)  -- $9C
  | staAbsx (w : Word)  -- $9D
  | shxAbsy (w : Word)  -- $9E
  | shaAbsy (w : Word)  -- $9F
  | ldyImm (v : Byte)  -- $A0
  | ldaIndx (z : Byte)  -- $A1
  | ldxImm (v : Byte)  -- $A2
  | laxIndx (z : Byte)  -- $A3
  | ldyZp (z : Byte)  -- $A4
  | ldaZp (z : Byte)  -- $A5
  | ldxZp (z : Byte)  -- $A6
  | laxZp (z : Byte)  -- $A7
  | ldaImm (v : Byte)  -- $A9
  | lxaImm (v : Byte)  -- $AB
  | ldyAbs (w : Word)  -- $AC
  | ldaAbs (w : Word)  -- $AD
  | ldxAbs (w : Word)  -- $AE
  | laxAbs (w : Word)  -- $AF
  | bcsRel (d : Byte)  -- $B0
  | ldaIndy (z : Byte)  -- $B1
  | laxIndy (z : Byte)  -- $B3
  | ldyZpx (z : Byte)  -- $B4
  | ldaZpx (z : Byte)  -- $B5
  | ldxZpy (z : Byte)  -- $B6
  | laxZpy (z : Byte)  -- $B7
  | ldaAbsy (w : Word)  -- $B9
  | lasAbsy (w : Word)  -- $BB
  | ldyAbsx (w : Word)  -- $BC
  | ldaAbsx (w : Word)  -- $BD
  | ldxAbsy (w : Word)  -- $BE
  | laxAbsy (w : Word)  -- $BF
  | cpyImm (v : Byte)  -- $C0
  | cmpIndx (z : Byte)  -- $C1
  | nopImmC2 (v : Byte)  -- $C2
  | dcpIndx (z : Byte)  -- $C3
  | cpyZp (z : Byte)  -- $C4
  | cmpZp (z : Byte)  -- $C5
  | decZp (z : Byte)  -- $C6
  | dcpZp (z : Byte)  -- $C7
  | cmpImm (v : Byte)  -- $C9
  | axsImm (v : Byte)  -- $CB
  | cpyAbs (w : Word)  -- $CC
  | cmpAbs (w : Word)  -- $CD
  | decAbs (w : Word)  -- $CE
  | dcpAbs (w : Word)  -- $CF
  | bneRel (d : Byte)  -- $D0
  | cmpIndy (z : Byte)  -- $D1
  | dcpIndy (z : Byte)  -- $D3
  | nopZpxD4 (z : Byte)  -- $D4
  | cmpZpx (z : Byte)  -- $D5
  | decZpx (z : Byte)  -- $D6
  | dcpZpx (z : Byte)  -- $D7
  | cmpAbsy (w : Word)  -- $D9
  | dcpAbsy (w : Word)  -- $DB
  | nopAbsxDC (w : Word)  -- $DC
  | cmpAbsx (w : Word)  -- $DD
  | decAbsx (w : Word)  -- $DE
  | dcpAbsx (w : Word)  -- $DF
  | cpxImm (v : Byte)  -- $E0
  | sbcIndx (z : Byte)  -- $E1
  | nopImmE2 (v : Byte)  -- $E2
  | isbIndx (z : Byte)  -- $E3
  | cpxZp (z : Byte)  -- $E4
  | sbcZp (z : Byte)  -- $E5
  | incZp (z : Byte)  -- $E6
  | isbZp (z : Byte)  -- $E7
  | sbcImm (v : Byte)  -- $E9
  | sbcImmEB (v : Byte)  -- $EB
  | cpxAbs (w : Word)  -- $EC
  | sbcAbs (w : Word)  -- $ED
  | incAbs (w : Word)  -- $EE
  | isbAbs (w : Word)  -- $EF
  | beqRel (d : Byte)  -- $F0
  | sbcIndy (z : Byte)  -- $F1
  | isbIndy (z : Byte)  -- $F3
  | nopZpxF4 (z : Byte)  -- $F4
  | sbcZpx (z : Byte)  -- $F5
  | incZpx (z : Byte)  -- $F6
  | isbZpx (z : Byte)  -- $F7
  | sbcAbsy (w : Word)  -- $F9
  | isbAbsy (w : Word)  -- $FB
  | nopAbsxFC (w : Word)  -- $FC
  | sbcAbsx (w : Word)  -- $FD
  | incAbsx (w : Word)  -- $FE
  | isbAbsx (w : Word)  -- $FF
  -- Rows without operand bytes (format F1), by opcode byte
  | brk  -- $00
  | jam02  -- $02
  | php  -- $08
  | aslAcc  -- $0A
  | jam12  -- $12
  | clc  -- $18
  | nopImp1A  -- $1A
  | jam22  -- $22
  | plp  -- $28
  | rolAcc  -- $2A
  | jam32  -- $32
  | sec  -- $38
  | nopImp3A  -- $3A
  | rti  -- $40
  | jam42  -- $42
  | pha  -- $48
  | lsrAcc  -- $4A
  | jam52  -- $52
  | cli  -- $58
  | nopImp5A  -- $5A
  | rts  -- $60
  | jam62  -- $62
  | pla  -- $68
  | rorAcc  -- $6A
  | jam72  -- $72
  | sei  -- $78
  | nopImp7A  -- $7A
  | dey  -- $88
  | txa  -- $8A
  | jam92  -- $92
  | tya  -- $98
  | txs  -- $9A
  | tay  -- $A8
  | tax  -- $AA
  | jamB2  -- $B2
  | clv  -- $B8
  | tsx  -- $BA
  | iny  -- $C8
  | dex  -- $CA
  | jamD2  -- $D2
  | cld  -- $D8
  | nopImpDA  -- $DA
  | inx  -- $E8
  | nop  -- $EA
  | jamF2  -- $F2
  | sed  -- $F8
  | nopImpFA  -- $FA
deriving DecidableEq, Repr

/-- The operand of an instruction, with its addressing mode (the mode of its cell in 30_encoding.md R104). -/
def Instr.operand : Instr → Operand
  | .brk => .imp
  | .oraIndx z => .indx z
  | .jam02 => .imp
  | .sloIndx z => .indx z
  | .nopZp04 z => .zp z
  | .oraZp z => .zp z
  | .aslZp z => .zp z
  | .sloZp z => .zp z
  | .php => .imp
  | .oraImm v => .imm v
  | .aslAcc => .acc
  | .ancImm0B v => .imm v
  | .nopAbs0C w => .abs w
  | .oraAbs w => .abs w
  | .aslAbs w => .abs w
  | .sloAbs w => .abs w
  | .bplRel d => .rel d
  | .oraIndy z => .indy z
  | .jam12 => .imp
  | .sloIndy z => .indy z
  | .nopZpx14 z => .zpx z
  | .oraZpx z => .zpx z
  | .aslZpx z => .zpx z
  | .sloZpx z => .zpx z
  | .clc => .imp
  | .oraAbsy w => .absy w
  | .nopImp1A => .imp
  | .sloAbsy w => .absy w
  | .nopAbsx1C w => .absx w
  | .oraAbsx w => .absx w
  | .aslAbsx w => .absx w
  | .sloAbsx w => .absx w
  | .jsrAbs w => .abs w
  | .andIndx z => .indx z
  | .jam22 => .imp
  | .rlaIndx z => .indx z
  | .bitZp z => .zp z
  | .andZp z => .zp z
  | .rolZp z => .zp z
  | .rlaZp z => .zp z
  | .plp => .imp
  | .andImm v => .imm v
  | .rolAcc => .acc
  | .ancImm2B v => .imm v
  | .bitAbs w => .abs w
  | .andAbs w => .abs w
  | .rolAbs w => .abs w
  | .rlaAbs w => .abs w
  | .bmiRel d => .rel d
  | .andIndy z => .indy z
  | .jam32 => .imp
  | .rlaIndy z => .indy z
  | .nopZpx34 z => .zpx z
  | .andZpx z => .zpx z
  | .rolZpx z => .zpx z
  | .rlaZpx z => .zpx z
  | .sec => .imp
  | .andAbsy w => .absy w
  | .nopImp3A => .imp
  | .rlaAbsy w => .absy w
  | .nopAbsx3C w => .absx w
  | .andAbsx w => .absx w
  | .rolAbsx w => .absx w
  | .rlaAbsx w => .absx w
  | .rti => .imp
  | .eorIndx z => .indx z
  | .jam42 => .imp
  | .sreIndx z => .indx z
  | .nopZp44 z => .zp z
  | .eorZp z => .zp z
  | .lsrZp z => .zp z
  | .sreZp z => .zp z
  | .pha => .imp
  | .eorImm v => .imm v
  | .lsrAcc => .acc
  | .alrImm v => .imm v
  | .jmpAbs w => .abs w
  | .eorAbs w => .abs w
  | .lsrAbs w => .abs w
  | .sreAbs w => .abs w
  | .bvcRel d => .rel d
  | .eorIndy z => .indy z
  | .jam52 => .imp
  | .sreIndy z => .indy z
  | .nopZpx54 z => .zpx z
  | .eorZpx z => .zpx z
  | .lsrZpx z => .zpx z
  | .sreZpx z => .zpx z
  | .cli => .imp
  | .eorAbsy w => .absy w
  | .nopImp5A => .imp
  | .sreAbsy w => .absy w
  | .nopAbsx5C w => .absx w
  | .eorAbsx w => .absx w
  | .lsrAbsx w => .absx w
  | .sreAbsx w => .absx w
  | .rts => .imp
  | .adcIndx z => .indx z
  | .jam62 => .imp
  | .rraIndx z => .indx z
  | .nopZp64 z => .zp z
  | .adcZp z => .zp z
  | .rorZp z => .zp z
  | .rraZp z => .zp z
  | .pla => .imp
  | .adcImm v => .imm v
  | .rorAcc => .acc
  | .arrImm v => .imm v
  | .jmpInd w => .ind w
  | .adcAbs w => .abs w
  | .rorAbs w => .abs w
  | .rraAbs w => .abs w
  | .bvsRel d => .rel d
  | .adcIndy z => .indy z
  | .jam72 => .imp
  | .rraIndy z => .indy z
  | .nopZpx74 z => .zpx z
  | .adcZpx z => .zpx z
  | .rorZpx z => .zpx z
  | .rraZpx z => .zpx z
  | .sei => .imp
  | .adcAbsy w => .absy w
  | .nopImp7A => .imp
  | .rraAbsy w => .absy w
  | .nopAbsx7C w => .absx w
  | .adcAbsx w => .absx w
  | .rorAbsx w => .absx w
  | .rraAbsx w => .absx w
  | .nopImm80 v => .imm v
  | .staIndx z => .indx z
  | .nopImm82 v => .imm v
  | .saxIndx z => .indx z
  | .styZp z => .zp z
  | .staZp z => .zp z
  | .stxZp z => .zp z
  | .saxZp z => .zp z
  | .dey => .imp
  | .nopImm89 v => .imm v
  | .txa => .imp
  | .xaaImm v => .imm v
  | .styAbs w => .abs w
  | .staAbs w => .abs w
  | .stxAbs w => .abs w
  | .saxAbs w => .abs w
  | .bccRel d => .rel d
  | .staIndy z => .indy z
  | .jam92 => .imp
  | .shaIndy z => .indy z
  | .styZpx z => .zpx z
  | .staZpx z => .zpx z
  | .stxZpy z => .zpy z
  | .saxZpy z => .zpy z
  | .tya => .imp
  | .staAbsy w => .absy w
  | .txs => .imp
  | .tasAbsy w => .absy w
  | .shyAbsx w => .absx w
  | .staAbsx w => .absx w
  | .shxAbsy w => .absy w
  | .shaAbsy w => .absy w
  | .ldyImm v => .imm v
  | .ldaIndx z => .indx z
  | .ldxImm v => .imm v
  | .laxIndx z => .indx z
  | .ldyZp z => .zp z
  | .ldaZp z => .zp z
  | .ldxZp z => .zp z
  | .laxZp z => .zp z
  | .tay => .imp
  | .ldaImm v => .imm v
  | .tax => .imp
  | .lxaImm v => .imm v
  | .ldyAbs w => .abs w
  | .ldaAbs w => .abs w
  | .ldxAbs w => .abs w
  | .laxAbs w => .abs w
  | .bcsRel d => .rel d
  | .ldaIndy z => .indy z
  | .jamB2 => .imp
  | .laxIndy z => .indy z
  | .ldyZpx z => .zpx z
  | .ldaZpx z => .zpx z
  | .ldxZpy z => .zpy z
  | .laxZpy z => .zpy z
  | .clv => .imp
  | .ldaAbsy w => .absy w
  | .tsx => .imp
  | .lasAbsy w => .absy w
  | .ldyAbsx w => .absx w
  | .ldaAbsx w => .absx w
  | .ldxAbsy w => .absy w
  | .laxAbsy w => .absy w
  | .cpyImm v => .imm v
  | .cmpIndx z => .indx z
  | .nopImmC2 v => .imm v
  | .dcpIndx z => .indx z
  | .cpyZp z => .zp z
  | .cmpZp z => .zp z
  | .decZp z => .zp z
  | .dcpZp z => .zp z
  | .iny => .imp
  | .cmpImm v => .imm v
  | .dex => .imp
  | .axsImm v => .imm v
  | .cpyAbs w => .abs w
  | .cmpAbs w => .abs w
  | .decAbs w => .abs w
  | .dcpAbs w => .abs w
  | .bneRel d => .rel d
  | .cmpIndy z => .indy z
  | .jamD2 => .imp
  | .dcpIndy z => .indy z
  | .nopZpxD4 z => .zpx z
  | .cmpZpx z => .zpx z
  | .decZpx z => .zpx z
  | .dcpZpx z => .zpx z
  | .cld => .imp
  | .cmpAbsy w => .absy w
  | .nopImpDA => .imp
  | .dcpAbsy w => .absy w
  | .nopAbsxDC w => .absx w
  | .cmpAbsx w => .absx w
  | .decAbsx w => .absx w
  | .dcpAbsx w => .absx w
  | .cpxImm v => .imm v
  | .sbcIndx z => .indx z
  | .nopImmE2 v => .imm v
  | .isbIndx z => .indx z
  | .cpxZp z => .zp z
  | .sbcZp z => .zp z
  | .incZp z => .zp z
  | .isbZp z => .zp z
  | .inx => .imp
  | .sbcImm v => .imm v
  | .nop => .imp
  | .sbcImmEB v => .imm v
  | .cpxAbs w => .abs w
  | .sbcAbs w => .abs w
  | .incAbs w => .abs w
  | .isbAbs w => .abs w
  | .beqRel d => .rel d
  | .sbcIndy z => .indy z
  | .jamF2 => .imp
  | .isbIndy z => .indy z
  | .nopZpxF4 z => .zpx z
  | .sbcZpx z => .zpx z
  | .incZpx z => .zpx z
  | .isbZpx z => .zpx z
  | .sed => .imp
  | .sbcAbsy w => .absy w
  | .nopImpFA => .imp
  | .isbAbsy w => .absy w
  | .nopAbsxFC w => .absx w
  | .sbcAbsx w => .absx w
  | .incAbsx w => .absx w
  | .isbAbsx w => .absx w

/-- The identity of an instruction (its cell in 30_encoding.md R104). -/
def Instr.mnemonic : Instr → Mnemonic
  | .brk => .brk
  | .oraIndx _ => .ora
  | .jam02 => .jam
  | .sloIndx _ => .slo
  | .nopZp04 _ => .nop
  | .oraZp _ => .ora
  | .aslZp _ => .asl
  | .sloZp _ => .slo
  | .php => .php
  | .oraImm _ => .ora
  | .aslAcc => .asl
  | .ancImm0B _ => .anc
  | .nopAbs0C _ => .nop
  | .oraAbs _ => .ora
  | .aslAbs _ => .asl
  | .sloAbs _ => .slo
  | .bplRel _ => .bpl
  | .oraIndy _ => .ora
  | .jam12 => .jam
  | .sloIndy _ => .slo
  | .nopZpx14 _ => .nop
  | .oraZpx _ => .ora
  | .aslZpx _ => .asl
  | .sloZpx _ => .slo
  | .clc => .clc
  | .oraAbsy _ => .ora
  | .nopImp1A => .nop
  | .sloAbsy _ => .slo
  | .nopAbsx1C _ => .nop
  | .oraAbsx _ => .ora
  | .aslAbsx _ => .asl
  | .sloAbsx _ => .slo
  | .jsrAbs _ => .jsr
  | .andIndx _ => .and
  | .jam22 => .jam
  | .rlaIndx _ => .rla
  | .bitZp _ => .bit
  | .andZp _ => .and
  | .rolZp _ => .rol
  | .rlaZp _ => .rla
  | .plp => .plp
  | .andImm _ => .and
  | .rolAcc => .rol
  | .ancImm2B _ => .anc
  | .bitAbs _ => .bit
  | .andAbs _ => .and
  | .rolAbs _ => .rol
  | .rlaAbs _ => .rla
  | .bmiRel _ => .bmi
  | .andIndy _ => .and
  | .jam32 => .jam
  | .rlaIndy _ => .rla
  | .nopZpx34 _ => .nop
  | .andZpx _ => .and
  | .rolZpx _ => .rol
  | .rlaZpx _ => .rla
  | .sec => .sec
  | .andAbsy _ => .and
  | .nopImp3A => .nop
  | .rlaAbsy _ => .rla
  | .nopAbsx3C _ => .nop
  | .andAbsx _ => .and
  | .rolAbsx _ => .rol
  | .rlaAbsx _ => .rla
  | .rti => .rti
  | .eorIndx _ => .eor
  | .jam42 => .jam
  | .sreIndx _ => .sre
  | .nopZp44 _ => .nop
  | .eorZp _ => .eor
  | .lsrZp _ => .lsr
  | .sreZp _ => .sre
  | .pha => .pha
  | .eorImm _ => .eor
  | .lsrAcc => .lsr
  | .alrImm _ => .alr
  | .jmpAbs _ => .jmp
  | .eorAbs _ => .eor
  | .lsrAbs _ => .lsr
  | .sreAbs _ => .sre
  | .bvcRel _ => .bvc
  | .eorIndy _ => .eor
  | .jam52 => .jam
  | .sreIndy _ => .sre
  | .nopZpx54 _ => .nop
  | .eorZpx _ => .eor
  | .lsrZpx _ => .lsr
  | .sreZpx _ => .sre
  | .cli => .cli
  | .eorAbsy _ => .eor
  | .nopImp5A => .nop
  | .sreAbsy _ => .sre
  | .nopAbsx5C _ => .nop
  | .eorAbsx _ => .eor
  | .lsrAbsx _ => .lsr
  | .sreAbsx _ => .sre
  | .rts => .rts
  | .adcIndx _ => .adc
  | .jam62 => .jam
  | .rraIndx _ => .rra
  | .nopZp64 _ => .nop
  | .adcZp _ => .adc
  | .rorZp _ => .ror
  | .rraZp _ => .rra
  | .pla => .pla
  | .adcImm _ => .adc
  | .rorAcc => .ror
  | .arrImm _ => .arr
  | .jmpInd _ => .jmp
  | .adcAbs _ => .adc
  | .rorAbs _ => .ror
  | .rraAbs _ => .rra
  | .bvsRel _ => .bvs
  | .adcIndy _ => .adc
  | .jam72 => .jam
  | .rraIndy _ => .rra
  | .nopZpx74 _ => .nop
  | .adcZpx _ => .adc
  | .rorZpx _ => .ror
  | .rraZpx _ => .rra
  | .sei => .sei
  | .adcAbsy _ => .adc
  | .nopImp7A => .nop
  | .rraAbsy _ => .rra
  | .nopAbsx7C _ => .nop
  | .adcAbsx _ => .adc
  | .rorAbsx _ => .ror
  | .rraAbsx _ => .rra
  | .nopImm80 _ => .nop
  | .staIndx _ => .sta
  | .nopImm82 _ => .nop
  | .saxIndx _ => .sax
  | .styZp _ => .sty
  | .staZp _ => .sta
  | .stxZp _ => .stx
  | .saxZp _ => .sax
  | .dey => .dey
  | .nopImm89 _ => .nop
  | .txa => .txa
  | .xaaImm _ => .xaa
  | .styAbs _ => .sty
  | .staAbs _ => .sta
  | .stxAbs _ => .stx
  | .saxAbs _ => .sax
  | .bccRel _ => .bcc
  | .staIndy _ => .sta
  | .jam92 => .jam
  | .shaIndy _ => .sha
  | .styZpx _ => .sty
  | .staZpx _ => .sta
  | .stxZpy _ => .stx
  | .saxZpy _ => .sax
  | .tya => .tya
  | .staAbsy _ => .sta
  | .txs => .txs
  | .tasAbsy _ => .tas
  | .shyAbsx _ => .shy
  | .staAbsx _ => .sta
  | .shxAbsy _ => .shx
  | .shaAbsy _ => .sha
  | .ldyImm _ => .ldy
  | .ldaIndx _ => .lda
  | .ldxImm _ => .ldx
  | .laxIndx _ => .lax
  | .ldyZp _ => .ldy
  | .ldaZp _ => .lda
  | .ldxZp _ => .ldx
  | .laxZp _ => .lax
  | .tay => .tay
  | .ldaImm _ => .lda
  | .tax => .tax
  | .lxaImm _ => .lxa
  | .ldyAbs _ => .ldy
  | .ldaAbs _ => .lda
  | .ldxAbs _ => .ldx
  | .laxAbs _ => .lax
  | .bcsRel _ => .bcs
  | .ldaIndy _ => .lda
  | .jamB2 => .jam
  | .laxIndy _ => .lax
  | .ldyZpx _ => .ldy
  | .ldaZpx _ => .lda
  | .ldxZpy _ => .ldx
  | .laxZpy _ => .lax
  | .clv => .clv
  | .ldaAbsy _ => .lda
  | .tsx => .tsx
  | .lasAbsy _ => .las
  | .ldyAbsx _ => .ldy
  | .ldaAbsx _ => .lda
  | .ldxAbsy _ => .ldx
  | .laxAbsy _ => .lax
  | .cpyImm _ => .cpy
  | .cmpIndx _ => .cmp
  | .nopImmC2 _ => .nop
  | .dcpIndx _ => .dcp
  | .cpyZp _ => .cpy
  | .cmpZp _ => .cmp
  | .decZp _ => .dec
  | .dcpZp _ => .dcp
  | .iny => .iny
  | .cmpImm _ => .cmp
  | .dex => .dex
  | .axsImm _ => .axs
  | .cpyAbs _ => .cpy
  | .cmpAbs _ => .cmp
  | .decAbs _ => .dec
  | .dcpAbs _ => .dcp
  | .bneRel _ => .bne
  | .cmpIndy _ => .cmp
  | .jamD2 => .jam
  | .dcpIndy _ => .dcp
  | .nopZpxD4 _ => .nop
  | .cmpZpx _ => .cmp
  | .decZpx _ => .dec
  | .dcpZpx _ => .dcp
  | .cld => .cld
  | .cmpAbsy _ => .cmp
  | .nopImpDA => .nop
  | .dcpAbsy _ => .dcp
  | .nopAbsxDC _ => .nop
  | .cmpAbsx _ => .cmp
  | .decAbsx _ => .dec
  | .dcpAbsx _ => .dcp
  | .cpxImm _ => .cpx
  | .sbcIndx _ => .sbc
  | .nopImmE2 _ => .nop
  | .isbIndx _ => .isb
  | .cpxZp _ => .cpx
  | .sbcZp _ => .sbc
  | .incZp _ => .inc
  | .isbZp _ => .isb
  | .inx => .inx
  | .sbcImm _ => .sbc
  | .nop => .nop
  | .sbcImmEB _ => .sbc
  | .cpxAbs _ => .cpx
  | .sbcAbs _ => .sbc
  | .incAbs _ => .inc
  | .isbAbs _ => .isb
  | .beqRel _ => .beq
  | .sbcIndy _ => .sbc
  | .jamF2 => .jam
  | .isbIndy _ => .isb
  | .nopZpxF4 _ => .nop
  | .sbcZpx _ => .sbc
  | .incZpx _ => .inc
  | .isbZpx _ => .isb
  | .sed => .sed
  | .sbcAbsy _ => .sbc
  | .nopImpFA => .nop
  | .isbAbsy _ => .isb
  | .nopAbsxFC _ => .nop
  | .sbcAbsx _ => .sbc
  | .incAbsx _ => .inc
  | .isbAbsx _ => .isb

/-- The tier of an instruction: the byte lists of 30_encoding.md R106. -/
def Instr.tier : Instr → Tier
  -- T2
  | .sloIndx _ | .sloZp _ | .sloAbs _ | .sloIndy _ | .sloZpx _ | .sloAbsy _
  | .sloAbsx _ | .rlaIndx _ | .rlaZp _ | .rlaAbs _ | .rlaIndy _ | .rlaZpx _
  | .rlaAbsy _ | .rlaAbsx _ | .sreIndx _ | .sreZp _ | .sreAbs _ | .sreIndy _
  | .sreZpx _ | .sreAbsy _ | .sreAbsx _ | .rraIndx _ | .rraZp _ | .rraAbs _
  | .rraIndy _ | .rraZpx _ | .rraAbsy _ | .rraAbsx _ | .saxIndx _ | .saxZp _
  | .saxAbs _ | .saxZpy _ | .laxIndx _ | .laxZp _ | .laxAbs _ | .laxIndy _
  | .laxZpy _ | .laxAbsy _ | .dcpIndx _ | .dcpZp _ | .dcpAbs _ | .dcpIndy _
  | .dcpZpx _ | .dcpAbsy _ | .dcpAbsx _ | .isbIndx _ | .isbZp _ | .isbAbs _
  | .isbIndy _ | .isbZpx _ | .isbAbsy _ | .isbAbsx _ => .t2
  -- T3
  | .nopZp04 _ | .nopAbs0C _ | .nopZpx14 _ | .nopImp1A | .nopAbsx1C _ | .nopZpx34 _
  | .nopImp3A | .nopAbsx3C _ | .nopZp44 _ | .nopZpx54 _ | .nopImp5A | .nopAbsx5C _
  | .nopZp64 _ | .nopZpx74 _ | .nopImp7A | .nopAbsx7C _ | .nopImm80 _ | .nopImm82 _
  | .nopImm89 _ | .nopImmC2 _ | .nopZpxD4 _ | .nopImpDA | .nopAbsxDC _ | .nopImmE2 _
  | .sbcImmEB _ | .nopZpxF4 _ | .nopImpFA | .nopAbsxFC _ => .t3
  -- T4
  | .jam02 | .ancImm0B _ | .jam12 | .jam22 | .ancImm2B _ | .jam32
  | .jam42 | .alrImm _ | .jam52 | .jam62 | .arrImm _ | .jam72
  | .xaaImm _ | .jam92 | .shaIndy _ | .tasAbsy _ | .shyAbsx _ | .shxAbsy _
  | .shaAbsy _ | .lxaImm _ | .jamB2 | .lasAbsy _ | .axsImm _ | .jamD2
  | .jamF2 => .t4
  -- T1: every row not listed above
  | _ => .t1

end Sys2Proof
end

