-- ==== Sys2Proof/WellFormed.lean ====
section
/-! DEFINITION. The checks on syntax and parameters. An Instr needs no check of its fields: their widths are in their types,
and each constructor is one opcode byte, all 256 of which decode (30_encoding.md R103). What is checked is whether an
instruction is admitted under the parameters (40_addressing.md R140), and whether the trap table is a table the host can
have (60_exceptions.md R442). -/

namespace Sys2Proof

/-- Whether the step may execute an instruction: not a T4 byte, and a T3 byte only if `ADMIT_T3` (40_addressing.md R140,
30_encoding.md R107). -/
def Instr.admitted (q : Params) (i : Instr) : Bool :=
  match i.tier with
  | .t1 | .t2 => true
  | .t3 => q.admitT3
  | .t4 => false

/-- The most addresses `TRAPS` holds (60_exceptions.md R440). -/
def trapCapacity : Nat := 32

/-- Strictly rising order, so that no address stands twice. -/
def rising : List Word → Bool
  | [] => true
  | [_] => true
  | a :: b :: r => decide (a.toNat < b.toNat) && rising (b :: r)

/-- The trap table is a set of at most 32 addresses, kept sorted (60_exceptions.md R440, R442). -/
def Params.wf (q : Params) : Bool := rising q.traps && decide (q.traps.length ≤ trapCapacity)

end Sys2Proof
end

