-- ==== Sys2Proof/Decode.lean ====
section
/-! DEFINITION. The decoder, total on any bytes, and after it the encoder, both written from the encoding tables of
30_encoding.md (R100 to R104, R109, R116) and the encoding lines of the instruction rules (R200 to R412). -/

namespace Sys2Proof

/-! ## Bytes and words -/

/-- The 16-bit value `(h:l)` of 00_scope.md R11. -/
def word (h l : Byte) : Word := h ++ l

/-- `lo8` of 00_scope.md R11. -/
def lo8 (w : Word) : Byte := w.extractLsb' 0 8

/-- `hi8` of 00_scope.md R11. -/
def hi8 (w : Word) : Byte := w.extractLsb' 8 8

/-! ## The opcode map -/

/-- Row `0x` of the opcode map (30_encoding.md R104). -/
def opcodeRow0 : List (Byte → Byte → Instr) :=
  [fun _ _ => .brk, fun b _ => .oraIndx b, fun _ _ => .jam02, fun b _ => .sloIndx b,
   fun b _ => .nopZp04 b, fun b _ => .oraZp b, fun b _ => .aslZp b, fun b _ => .sloZp b,
   fun _ _ => .php, fun b _ => .oraImm b, fun _ _ => .aslAcc, fun b _ => .ancImm0B b,
   fun l h => .nopAbs0C (word h l), fun l h => .oraAbs (word h l), fun l h => .aslAbs (word h l), fun l h => .sloAbs (word h l)]

/-- Row `1x` of the opcode map (30_encoding.md R104). -/
def opcodeRow1 : List (Byte → Byte → Instr) :=
  [fun b _ => .bplRel b, fun b _ => .oraIndy b, fun _ _ => .jam12, fun b _ => .sloIndy b,
   fun b _ => .nopZpx14 b, fun b _ => .oraZpx b, fun b _ => .aslZpx b, fun b _ => .sloZpx b,
   fun _ _ => .clc, fun l h => .oraAbsy (word h l), fun _ _ => .nopImp1A, fun l h => .sloAbsy (word h l),
   fun l h => .nopAbsx1C (word h l), fun l h => .oraAbsx (word h l), fun l h => .aslAbsx (word h l), fun l h => .sloAbsx (word h l)]

/-- Row `2x` of the opcode map (30_encoding.md R104). -/
def opcodeRow2 : List (Byte → Byte → Instr) :=
  [fun l h => .jsrAbs (word h l), fun b _ => .andIndx b, fun _ _ => .jam22, fun b _ => .rlaIndx b,
   fun b _ => .bitZp b, fun b _ => .andZp b, fun b _ => .rolZp b, fun b _ => .rlaZp b,
   fun _ _ => .plp, fun b _ => .andImm b, fun _ _ => .rolAcc, fun b _ => .ancImm2B b,
   fun l h => .bitAbs (word h l), fun l h => .andAbs (word h l), fun l h => .rolAbs (word h l), fun l h => .rlaAbs (word h l)]

/-- Row `3x` of the opcode map (30_encoding.md R104). -/
def opcodeRow3 : List (Byte → Byte → Instr) :=
  [fun b _ => .bmiRel b, fun b _ => .andIndy b, fun _ _ => .jam32, fun b _ => .rlaIndy b,
   fun b _ => .nopZpx34 b, fun b _ => .andZpx b, fun b _ => .rolZpx b, fun b _ => .rlaZpx b,
   fun _ _ => .sec, fun l h => .andAbsy (word h l), fun _ _ => .nopImp3A, fun l h => .rlaAbsy (word h l),
   fun l h => .nopAbsx3C (word h l), fun l h => .andAbsx (word h l), fun l h => .rolAbsx (word h l), fun l h => .rlaAbsx (word h l)]

/-- Row `4x` of the opcode map (30_encoding.md R104). -/
def opcodeRow4 : List (Byte → Byte → Instr) :=
  [fun _ _ => .rti, fun b _ => .eorIndx b, fun _ _ => .jam42, fun b _ => .sreIndx b,
   fun b _ => .nopZp44 b, fun b _ => .eorZp b, fun b _ => .lsrZp b, fun b _ => .sreZp b,
   fun _ _ => .pha, fun b _ => .eorImm b, fun _ _ => .lsrAcc, fun b _ => .alrImm b,
   fun l h => .jmpAbs (word h l), fun l h => .eorAbs (word h l), fun l h => .lsrAbs (word h l), fun l h => .sreAbs (word h l)]

/-- Row `5x` of the opcode map (30_encoding.md R104). -/
def opcodeRow5 : List (Byte → Byte → Instr) :=
  [fun b _ => .bvcRel b, fun b _ => .eorIndy b, fun _ _ => .jam52, fun b _ => .sreIndy b,
   fun b _ => .nopZpx54 b, fun b _ => .eorZpx b, fun b _ => .lsrZpx b, fun b _ => .sreZpx b,
   fun _ _ => .cli, fun l h => .eorAbsy (word h l), fun _ _ => .nopImp5A, fun l h => .sreAbsy (word h l),
   fun l h => .nopAbsx5C (word h l), fun l h => .eorAbsx (word h l), fun l h => .lsrAbsx (word h l), fun l h => .sreAbsx (word h l)]

/-- Row `6x` of the opcode map (30_encoding.md R104). -/
def opcodeRow6 : List (Byte → Byte → Instr) :=
  [fun _ _ => .rts, fun b _ => .adcIndx b, fun _ _ => .jam62, fun b _ => .rraIndx b,
   fun b _ => .nopZp64 b, fun b _ => .adcZp b, fun b _ => .rorZp b, fun b _ => .rraZp b,
   fun _ _ => .pla, fun b _ => .adcImm b, fun _ _ => .rorAcc, fun b _ => .arrImm b,
   fun l h => .jmpInd (word h l), fun l h => .adcAbs (word h l), fun l h => .rorAbs (word h l), fun l h => .rraAbs (word h l)]

/-- Row `7x` of the opcode map (30_encoding.md R104). -/
def opcodeRow7 : List (Byte → Byte → Instr) :=
  [fun b _ => .bvsRel b, fun b _ => .adcIndy b, fun _ _ => .jam72, fun b _ => .rraIndy b,
   fun b _ => .nopZpx74 b, fun b _ => .adcZpx b, fun b _ => .rorZpx b, fun b _ => .rraZpx b,
   fun _ _ => .sei, fun l h => .adcAbsy (word h l), fun _ _ => .nopImp7A, fun l h => .rraAbsy (word h l),
   fun l h => .nopAbsx7C (word h l), fun l h => .adcAbsx (word h l), fun l h => .rorAbsx (word h l), fun l h => .rraAbsx (word h l)]

/-- Row `8x` of the opcode map (30_encoding.md R104). -/
def opcodeRow8 : List (Byte → Byte → Instr) :=
  [fun b _ => .nopImm80 b, fun b _ => .staIndx b, fun b _ => .nopImm82 b, fun b _ => .saxIndx b,
   fun b _ => .styZp b, fun b _ => .staZp b, fun b _ => .stxZp b, fun b _ => .saxZp b,
   fun _ _ => .dey, fun b _ => .nopImm89 b, fun _ _ => .txa, fun b _ => .xaaImm b,
   fun l h => .styAbs (word h l), fun l h => .staAbs (word h l), fun l h => .stxAbs (word h l), fun l h => .saxAbs (word h l)]

/-- Row `9x` of the opcode map (30_encoding.md R104). -/
def opcodeRow9 : List (Byte → Byte → Instr) :=
  [fun b _ => .bccRel b, fun b _ => .staIndy b, fun _ _ => .jam92, fun b _ => .shaIndy b,
   fun b _ => .styZpx b, fun b _ => .staZpx b, fun b _ => .stxZpy b, fun b _ => .saxZpy b,
   fun _ _ => .tya, fun l h => .staAbsy (word h l), fun _ _ => .txs, fun l h => .tasAbsy (word h l),
   fun l h => .shyAbsx (word h l), fun l h => .staAbsx (word h l), fun l h => .shxAbsy (word h l), fun l h => .shaAbsy (word h l)]

/-- Row `Ax` of the opcode map (30_encoding.md R104). -/
def opcodeRowA : List (Byte → Byte → Instr) :=
  [fun b _ => .ldyImm b, fun b _ => .ldaIndx b, fun b _ => .ldxImm b, fun b _ => .laxIndx b,
   fun b _ => .ldyZp b, fun b _ => .ldaZp b, fun b _ => .ldxZp b, fun b _ => .laxZp b,
   fun _ _ => .tay, fun b _ => .ldaImm b, fun _ _ => .tax, fun b _ => .lxaImm b,
   fun l h => .ldyAbs (word h l), fun l h => .ldaAbs (word h l), fun l h => .ldxAbs (word h l), fun l h => .laxAbs (word h l)]

/-- Row `Bx` of the opcode map (30_encoding.md R104). -/
def opcodeRowB : List (Byte → Byte → Instr) :=
  [fun b _ => .bcsRel b, fun b _ => .ldaIndy b, fun _ _ => .jamB2, fun b _ => .laxIndy b,
   fun b _ => .ldyZpx b, fun b _ => .ldaZpx b, fun b _ => .ldxZpy b, fun b _ => .laxZpy b,
   fun _ _ => .clv, fun l h => .ldaAbsy (word h l), fun _ _ => .tsx, fun l h => .lasAbsy (word h l),
   fun l h => .ldyAbsx (word h l), fun l h => .ldaAbsx (word h l), fun l h => .ldxAbsy (word h l), fun l h => .laxAbsy (word h l)]

/-- Row `Cx` of the opcode map (30_encoding.md R104). -/
def opcodeRowC : List (Byte → Byte → Instr) :=
  [fun b _ => .cpyImm b, fun b _ => .cmpIndx b, fun b _ => .nopImmC2 b, fun b _ => .dcpIndx b,
   fun b _ => .cpyZp b, fun b _ => .cmpZp b, fun b _ => .decZp b, fun b _ => .dcpZp b,
   fun _ _ => .iny, fun b _ => .cmpImm b, fun _ _ => .dex, fun b _ => .axsImm b,
   fun l h => .cpyAbs (word h l), fun l h => .cmpAbs (word h l), fun l h => .decAbs (word h l), fun l h => .dcpAbs (word h l)]

/-- Row `Dx` of the opcode map (30_encoding.md R104). -/
def opcodeRowD : List (Byte → Byte → Instr) :=
  [fun b _ => .bneRel b, fun b _ => .cmpIndy b, fun _ _ => .jamD2, fun b _ => .dcpIndy b,
   fun b _ => .nopZpxD4 b, fun b _ => .cmpZpx b, fun b _ => .decZpx b, fun b _ => .dcpZpx b,
   fun _ _ => .cld, fun l h => .cmpAbsy (word h l), fun _ _ => .nopImpDA, fun l h => .dcpAbsy (word h l),
   fun l h => .nopAbsxDC (word h l), fun l h => .cmpAbsx (word h l), fun l h => .decAbsx (word h l), fun l h => .dcpAbsx (word h l)]

/-- Row `Ex` of the opcode map (30_encoding.md R104). -/
def opcodeRowE : List (Byte → Byte → Instr) :=
  [fun b _ => .cpxImm b, fun b _ => .sbcIndx b, fun b _ => .nopImmE2 b, fun b _ => .isbIndx b,
   fun b _ => .cpxZp b, fun b _ => .sbcZp b, fun b _ => .incZp b, fun b _ => .isbZp b,
   fun _ _ => .inx, fun b _ => .sbcImm b, fun _ _ => .nop, fun b _ => .sbcImmEB b,
   fun l h => .cpxAbs (word h l), fun l h => .sbcAbs (word h l), fun l h => .incAbs (word h l), fun l h => .isbAbs (word h l)]

/-- Row `Fx` of the opcode map (30_encoding.md R104). -/
def opcodeRowF : List (Byte → Byte → Instr) :=
  [fun b _ => .beqRel b, fun b _ => .sbcIndy b, fun _ _ => .jamF2, fun b _ => .isbIndy b,
   fun b _ => .nopZpxF4 b, fun b _ => .sbcZpx b, fun b _ => .incZpx b, fun b _ => .isbZpx b,
   fun _ _ => .sed, fun l h => .sbcAbsy (word h l), fun _ _ => .nopImpFA, fun l h => .isbAbsy (word h l),
   fun l h => .nopAbsxFC (word h l), fun l h => .sbcAbsx (word h l), fun l h => .incAbsx (word h l), fun l h => .isbAbsx (word h l)]

/-- The opcode map: sixteen rows of sixteen (30_encoding.md R104). A cell makes the instruction from its two operand bytes,
of which it uses as many as its mode has (R102). -/
def opcodeMap : List (List (Byte → Byte → Instr)) :=
  [opcodeRow0, opcodeRow1, opcodeRow2, opcodeRow3, opcodeRow4, opcodeRow5, opcodeRow6, opcodeRow7] ++
  [opcodeRow8, opcodeRow9, opcodeRowA, opcodeRowB, opcodeRowC, opcodeRowD, opcodeRowE, opcodeRowF]

/-- The instruction that the opcode byte `op` makes with the operand bytes `b1` and `b2`. Total: every byte decodes, by the
opcode byte alone (30_encoding.md R103). The default cell is never read (the map is full: `opcode_instrOf`). -/
def instrOf (op b1 b2 : Byte) : Instr :=
  ((opcodeMap.getD (op.toNat / 16) []).getD (op.toNat % 16) (fun _ _ => .brk)) b1 b2

/-- How many operand bytes follow the opcode byte `op` (30_encoding.md R109). -/
def operandCount (op : Byte) : Nat := (instrOf op 0 0).operand.mode.operandBytes

/-- Why a list of bytes is no instruction: it ends too early. No opcode byte is rejected (30_encoding.md R103). -/
inductive Reject where
  | empty                                      -- there is no opcode byte
  | truncated (opcode : Byte) (missing : Nat)  -- this many operand bytes of `opcode` are missing
deriving DecidableEq, Repr

/-- The outcome of decoding a list of bytes: an instruction with the bytes after it, or a rejection. -/
inductive Decoded where
  | ok (i : Instr) (rest : List Byte)
  | reject (r : Reject)
deriving DecidableEq, Repr

/-- The decoder over a list of bytes, opcode byte first, operand bytes low byte first (30_encoding.md R100, R102). -/
def decode : List Byte → Decoded
  | [] => .reject .empty
  | op :: bs =>
    match operandCount op, bs with
    | 0, rest => .ok (instrOf op 0 0) rest
    | 1, b1 :: rest => .ok (instrOf op b1 0) rest
    | 1, [] => .reject (.truncated op 1)
    | _, b1 :: b2 :: rest => .ok (instrOf op b1 b2) rest
    | _, [_] => .reject (.truncated op 1)
    | _, [] => .reject (.truncated op 2)

/-! ## The encoder -/

/-- The opcode byte of an instruction: the encoder's half of 30_encoding.md R104, written from the families' own encoding
lines (R200 to R412) and read back by the decoder in `Sys2Proof.Laws.rebuild`. -/
def Instr.opcode : Instr → Byte
  | .ldaIndx _ => 0xA1
  | .ldaZp _ => 0xA5
  | .ldaImm _ => 0xA9
  | .ldaAbs _ => 0xAD
  | .ldaIndy _ => 0xB1
  | .ldaZpx _ => 0xB5
  | .ldaAbsy _ => 0xB9
  | .ldaAbsx _ => 0xBD
  | .ldxImm _ => 0xA2
  | .ldxZp _ => 0xA6
  | .ldxAbs _ => 0xAE
  | .ldxZpy _ => 0xB6
  | .ldxAbsy _ => 0xBE
  | .ldyImm _ => 0xA0
  | .ldyZp _ => 0xA4
  | .ldyAbs _ => 0xAC
  | .ldyZpx _ => 0xB4
  | .ldyAbsx _ => 0xBC
  | .staIndx _ => 0x81
  | .staZp _ => 0x85
  | .staAbs _ => 0x8D
  | .staIndy _ => 0x91
  | .staZpx _ => 0x95
  | .staAbsy _ => 0x99
  | .staAbsx _ => 0x9D
  | .stxZp _ => 0x86
  | .stxAbs _ => 0x8E
  | .stxZpy _ => 0x96
  | .styZp _ => 0x84
  | .styAbs _ => 0x8C
  | .styZpx _ => 0x94
  | .tax => 0xAA
  | .tay => 0xA8
  | .txa => 0x8A
  | .tya => 0x98
  | .tsx => 0xBA
  | .txs => 0x9A
  | .adcIndx _ => 0x61
  | .adcZp _ => 0x65
  | .adcImm _ => 0x69
  | .adcAbs _ => 0x6D
  | .adcIndy _ => 0x71
  | .adcZpx _ => 0x75
  | .adcAbsy _ => 0x79
  | .adcAbsx _ => 0x7D
  | .sbcIndx _ => 0xE1
  | .sbcZp _ => 0xE5
  | .sbcImm _ => 0xE9
  | .sbcImmEB _ => 0xEB
  | .sbcAbs _ => 0xED
  | .sbcIndy _ => 0xF1
  | .sbcZpx _ => 0xF5
  | .sbcAbsy _ => 0xF9
  | .sbcAbsx _ => 0xFD
  | .andIndx _ => 0x21
  | .andZp _ => 0x25
  | .andImm _ => 0x29
  | .andAbs _ => 0x2D
  | .andIndy _ => 0x31
  | .andZpx _ => 0x35
  | .andAbsy _ => 0x39
  | .andAbsx _ => 0x3D
  | .oraIndx _ => 0x01
  | .oraZp _ => 0x05
  | .oraImm _ => 0x09
  | .oraAbs _ => 0x0D
  | .oraIndy _ => 0x11
  | .oraZpx _ => 0x15
  | .oraAbsy _ => 0x19
  | .oraAbsx _ => 0x1D
  | .eorIndx _ => 0x41
  | .eorZp _ => 0x45
  | .eorImm _ => 0x49
  | .eorAbs _ => 0x4D
  | .eorIndy _ => 0x51
  | .eorZpx _ => 0x55
  | .eorAbsy _ => 0x59
  | .eorAbsx _ => 0x5D
  | .cmpIndx _ => 0xC1
  | .cmpZp _ => 0xC5
  | .cmpImm _ => 0xC9
  | .cmpAbs _ => 0xCD
  | .cmpIndy _ => 0xD1
  | .cmpZpx _ => 0xD5
  | .cmpAbsy _ => 0xD9
  | .cmpAbsx _ => 0xDD
  | .cpxImm _ => 0xE0
  | .cpxZp _ => 0xE4
  | .cpxAbs _ => 0xEC
  | .cpyImm _ => 0xC0
  | .cpyZp _ => 0xC4
  | .cpyAbs _ => 0xCC
  | .bitZp _ => 0x24
  | .bitAbs _ => 0x2C
  | .incZp _ => 0xE6
  | .incAbs _ => 0xEE
  | .incZpx _ => 0xF6
  | .incAbsx _ => 0xFE
  | .decZp _ => 0xC6
  | .decAbs _ => 0xCE
  | .decZpx _ => 0xD6
  | .decAbsx _ => 0xDE
  | .inx => 0xE8
  | .iny => 0xC8
  | .dex => 0xCA
  | .dey => 0x88
  | .aslZp _ => 0x06
  | .aslAcc => 0x0A
  | .aslAbs _ => 0x0E
  | .aslZpx _ => 0x16
  | .aslAbsx _ => 0x1E
  | .lsrZp _ => 0x46
  | .lsrAcc => 0x4A
  | .lsrAbs _ => 0x4E
  | .lsrZpx _ => 0x56
  | .lsrAbsx _ => 0x5E
  | .rolZp _ => 0x26
  | .rolAcc => 0x2A
  | .rolAbs _ => 0x2E
  | .rolZpx _ => 0x36
  | .rolAbsx _ => 0x3E
  | .rorZp _ => 0x66
  | .rorAcc => 0x6A
  | .rorAbs _ => 0x6E
  | .rorZpx _ => 0x76
  | .rorAbsx _ => 0x7E
  | .bplRel _ => 0x10
  | .bmiRel _ => 0x30
  | .bvcRel _ => 0x50
  | .bvsRel _ => 0x70
  | .bccRel _ => 0x90
  | .bcsRel _ => 0xB0
  | .bneRel _ => 0xD0
  | .beqRel _ => 0xF0
  | .jmpAbs _ => 0x4C
  | .jmpInd _ => 0x6C
  | .jsrAbs _ => 0x20
  | .rts => 0x60
  | .pha => 0x48
  | .pla => 0x68
  | .php => 0x08
  | .plp => 0x28
  | .clc => 0x18
  | .sec => 0x38
  | .cli => 0x58
  | .sei => 0x78
  | .cld => 0xD8
  | .sed => 0xF8
  | .clv => 0xB8
  | .nopZp04 _ => 0x04
  | .nopAbs0C _ => 0x0C
  | .nopZpx14 _ => 0x14
  | .nopImp1A => 0x1A
  | .nopAbsx1C _ => 0x1C
  | .nopZpx34 _ => 0x34
  | .nopImp3A => 0x3A
  | .nopAbsx3C _ => 0x3C
  | .nopZp44 _ => 0x44
  | .nopZpx54 _ => 0x54
  | .nopImp5A => 0x5A
  | .nopAbsx5C _ => 0x5C
  | .nopZp64 _ => 0x64
  | .nopZpx74 _ => 0x74
  | .nopImp7A => 0x7A
  | .nopAbsx7C _ => 0x7C
  | .nopImm80 _ => 0x80
  | .nopImm82 _ => 0x82
  | .nopImm89 _ => 0x89
  | .nopImmC2 _ => 0xC2
  | .nopZpxD4 _ => 0xD4
  | .nopImpDA => 0xDA
  | .nopAbsxDC _ => 0xDC
  | .nopImmE2 _ => 0xE2
  | .nop => 0xEA
  | .nopZpxF4 _ => 0xF4
  | .nopImpFA => 0xFA
  | .nopAbsxFC _ => 0xFC
  | .brk => 0x00
  | .rti => 0x40
  | .sloIndx _ => 0x03
  | .sloZp _ => 0x07
  | .sloAbs _ => 0x0F
  | .sloIndy _ => 0x13
  | .sloZpx _ => 0x17
  | .sloAbsy _ => 0x1B
  | .sloAbsx _ => 0x1F
  | .rlaIndx _ => 0x23
  | .rlaZp _ => 0x27
  | .rlaAbs _ => 0x2F
  | .rlaIndy _ => 0x33
  | .rlaZpx _ => 0x37
  | .rlaAbsy _ => 0x3B
  | .rlaAbsx _ => 0x3F
  | .sreIndx _ => 0x43
  | .sreZp _ => 0x47
  | .sreAbs _ => 0x4F
  | .sreIndy _ => 0x53
  | .sreZpx _ => 0x57
  | .sreAbsy _ => 0x5B
  | .sreAbsx _ => 0x5F
  | .rraIndx _ => 0x63
  | .rraZp _ => 0x67
  | .rraAbs _ => 0x6F
  | .rraIndy _ => 0x73
  | .rraZpx _ => 0x77
  | .rraAbsy _ => 0x7B
  | .rraAbsx _ => 0x7F
  | .saxIndx _ => 0x83
  | .saxZp _ => 0x87
  | .saxAbs _ => 0x8F
  | .saxZpy _ => 0x97
  | .laxIndx _ => 0xA3
  | .laxZp _ => 0xA7
  | .laxAbs _ => 0xAF
  | .laxIndy _ => 0xB3
  | .laxZpy _ => 0xB7
  | .laxAbsy _ => 0xBF
  | .dcpIndx _ => 0xC3
  | .dcpZp _ => 0xC7
  | .dcpAbs _ => 0xCF
  | .dcpIndy _ => 0xD3
  | .dcpZpx _ => 0xD7
  | .dcpAbsy _ => 0xDB
  | .dcpAbsx _ => 0xDF
  | .isbIndx _ => 0xE3
  | .isbZp _ => 0xE7
  | .isbAbs _ => 0xEF
  | .isbIndy _ => 0xF3
  | .isbZpx _ => 0xF7
  | .isbAbsy _ => 0xFB
  | .isbAbsx _ => 0xFF
  | .jam02 => 0x02
  | .jam12 => 0x12
  | .jam22 => 0x22
  | .jam32 => 0x32
  | .jam42 => 0x42
  | .jam52 => 0x52
  | .jam62 => 0x62
  | .jam72 => 0x72
  | .jam92 => 0x92
  | .jamB2 => 0xB2
  | .jamD2 => 0xD2
  | .jamF2 => 0xF2
  | .ancImm0B _ => 0x0B
  | .ancImm2B _ => 0x2B
  | .alrImm _ => 0x4B
  | .arrImm _ => 0x6B
  | .xaaImm _ => 0x8B
  | .lxaImm _ => 0xAB
  | .axsImm _ => 0xCB
  | .shaIndy _ => 0x93
  | .shaAbsy _ => 0x9F
  | .tasAbsy _ => 0x9B
  | .shyAbsx _ => 0x9C
  | .shxAbsy _ => 0x9E
  | .lasAbsy _ => 0xBB

/-- The operand bytes of an instruction, low byte first (30_encoding.md R101, R102). -/
def Operand.bytes : Operand → List Byte
  | .imp | .acc => []
  | .imm v => [v]
  | .zp z | .zpx z | .zpy z | .indx z | .indy z => [z]
  | .rel d => [d]
  | .abs w | .absx w | .absy w | .ind w => [lo8 w, hi8 w]

/-- The length of an instruction in bytes (30_encoding.md R109). -/
def Instr.length (i : Instr) : Nat := i.operand.mode.length

/-- The bytes of an instruction: its opcode byte, then its operand bytes (30_encoding.md R100). -/
def encode (i : Instr) : List Byte := i.opcode :: i.operand.bytes

/-- The reverse lookup (mnemonic, mode) to opcode byte. Where two bytes share a pair it gives the T1 byte, and it never gives
a T3 or T4 byte (30_encoding.md R116). -/
def reverseLookup (m : Mnemonic) (k : Mode) : Option Byte :=
  ((List.range 256).find? fun n =>
    let i := instrOf (BitVec.ofNat 8 n) 0 0
    i.mnemonic == m && i.operand.mode == k && (i.tier == .t1 || i.tier == .t2)).map (BitVec.ofNat 8)

/-! ## The host's table words -/

/-- The first three bytes of a table word: bit 0 is the least significant bit of the first byte, and every bit from `nbits`
on is 0. -/
def tableBytes (nbits w : Nat) : List Byte :=
  let v := w % 2 ^ nbits
  [BitVec.ofNat 8 v, BitVec.ofNat 8 (v / 256), BitVec.ofNat 8 (v / 65536)]

/-- What the decoder reads from an instruction given as a table word. -/
def decodeTableWord (nbits w : Nat) : Option Instr :=
  match decode (tableBytes nbits w) with
  | .ok i _ => some i
  | .reject _ => none

end Sys2Proof
end

