-- ==== Sys2Proof/Machine/State.lean ====
section
/-! DEFINITION. The machine's state as plain data, its faults and refusals, and the state after reset (10_state.md). -/

namespace Sys2Proof.Machine

/-- Memory as a list of (address, byte) pairs in one canonical form (`Memory.wf`), over the whole 64 KiB space
(20_memory.md R70). -/
abbrev Memory := List Host.Cell

/-- What an address that is not listed reads as. DESIGN CHOICE (log 1): the spec leaves the initial image to the environment
(20_memory.md R71). -/
def Memory.unlisted : Byte := 0

/-- The canonical form: addresses of the 64 KiB space, strictly rising, and no cell that holds what an unlisted address reads
as. -/
def Memory.wf : Memory → Bool
  | [] => true
  | [c] => decide (c.1 < 65536) && decide (c.2 ≠ Memory.unlisted)
  | c :: d :: r => decide (c.1 < d.1) && decide (c.2 ≠ Memory.unlisted) && Memory.wf (d :: r)

/-- One entry of the access history: "A model records every access as an event (kind, address, value)" (20_memory.md R77).
The host's accesses take their place in the same order (R80, R85), and so does a call of the trap hook (60_exceptions.md
R440). -/
inductive Event where
  | read (a : Word) (v : Byte)       -- `MemRead(a, 1)` gave `v`
  | write (a : Word) (v : Byte)      -- `MemWrite(a, 1, v)`
  | hostRead (a : Word) (v : Byte)   -- the host read `v` at `a`
  | hostWrite (a : Word) (v : Byte)  -- the host wrote `v` at `a`
  | hook (t : Word)                  -- the trap hook fired for the target `t`
deriving DecidableEq, Repr

/-- A trap callback that has not returned yet: the hook is open for `target`. What is left of `TrapTransfer(target)` happens when
its calls are done (60_exceptions.md R440). -/
structure OpenCallback where
  target : Word
  push : Option Word            -- the return address that a JSR has still to push (45_control.md R312)
  calls : List CallbackCall     -- what the callback has still to do
  outcome : TrapOutcome         -- what it returns
deriving DecidableEq, Repr

/-- The machine's state. The first six fields are the register file (10_state.md R30), the next three the internal latches
(R47), then the cycle-budget counter (R48) and the memory the block is given (20_memory.md R70). The rest is the model's
own: the access history (R77), the parameters (00_scope.md R9), the environment's schedule, the callbacks that are open,
scripted callbacks and scripted answers, and the counter of free values. -/
structure State where
  a : Byte                      -- accumulator (R31)
  x : Byte                      -- index register X (R32)
  y : Byte                      -- index register Y (R33)
  sp : Byte                     -- stack pointer (R34)
  p : Byte                      -- status register (R36)
  pc : Word                     -- program counter (R35)
  opcode : Byte                 -- latch: the currently decoded opcode byte (R47)
  ea : Word                     -- latch: the currently resolved effective address (R47)
  ra : Byte                     -- latch: the raw relative offset of a branch (R47)
  debt : Int                    -- cycle-budget counter (R48)
  mem : Memory                  -- the 64 KiB byte memory (20_memory.md R70)
  history : List Event          -- every access so far, newest first (20_memory.md R77)
  params : Params               -- the parameters of 00_scope.md R9, written by `setpatch` only
  inputs : List HostCall        -- the environment's calls between core steps, in order; empty: the core steps
  openCallbacks : List OpenCallback -- the trap callbacks that have not returned, innermost first (60_exceptions.md R432)
  callbacks : List TrapEffect   -- the next trap callbacks, in order; empty: free values
  answers : List Byte           -- what `MEM_ENV`'s next reads return, in order; empty: free values
  draws : Nat                   -- how many free values have been used
deriving DecidableEq, Repr

/-- Faults. The type is empty: the step "never faults and never waits" (40_addressing.md R140), the block "raises no
exceptions" (00_scope.md R15), and no instruction faults (60_exceptions.md R420). -/
inductive Fault where
deriving DecidableEq, Repr

/-- Refusals: the model gives no meaning to what follows (00_scope.md R15). -/
inductive Refusal where
  /-- An instruction that has no meaning in this model yet, by its mnemonic. Raised by no arm. Safe. -/
  | notModelled (mnemonic : String)
  /-- `UnmodelledOpcode(byte, address)`: raised by the meanings of the T4 bytes, and of the T3 bytes when `ADMIT_T3` is
  false (47_undocumented.md R400). Safe: nothing can be proved about the run from there. -/
  | unmodelledOpcode (opcode : Byte) (address : Word)
deriving DecidableEq, Repr

/-- The outcome of a step. -/
abbrev Outcome := Host.Outcome State Fault Refusal

/-- The parameters at their defaults (00_scope.md R9). `TRAP_JSR_ORDER` has no default: PushThenHook is a DESIGN CHOICE
(log 5). -/
def Params.initial : Params where
  memEnv := []
  admitT3 := true
  traps := []
  trapJsrOrder := .pushThenHook
  decNonBcd := .spec

/-- The machine right after `reset()` with nothing listed in memory (10_state.md R51, 70_reset_and_hazards.md R470, R471).
`pc` is the vector read from $FFFC and $FFFD, and those two reads are the history. A, X, Y, the status bits but bit 5, and
the latches are open in the spec: DESIGN CHOICE zero (log 2, log 3). -/
def State.reset : State where
  a := 0
  x := 0
  y := 0
  sp := 0xFD
  p := 0x20
  pc := 0x0000
  opcode := 0
  ea := 0
  ra := 0
  debt := 0
  mem := []
  history := [.read 0xFFFD 0, .read 0xFFFC 0]
  params := Params.initial
  inputs := []
  openCallbacks := []
  callbacks := []
  answers := []
  draws := 0

end Sys2Proof.Machine
end

