-- ==== Sys2Proof/Machine/Flags.lean ====
section
/-! DEFINITION. The status register P: its bits, reads of a flag, writes of P, and the flag computations that instructions
share (10_state.md R36 to R45, 00_scope.md R14, 41_alu.md R170, R177, R184). -/

namespace Sys2Proof.Machine

/-- The seven flags of P. Bit 5, the constant bit, is not one of them (10_state.md R36, R42). -/
inductive Flag where
  | c | z | i | d | b | v | n
deriving DecidableEq, Repr

/-- The position of a flag in P (10_state.md R36). -/
def Flag.bit : Flag → Nat
  | .c => 0
  | .z => 1
  | .i => 2
  | .d => 3
  | .b => 4
  | .v => 6
  | .n => 7

/-- The constant bit, bit 5 (10_state.md R42). -/
def constantBit : Byte := 0x20

/-- The break bit, bit 4 (10_state.md R41). -/
def breakBit : Byte := 0x10

/-- `v` with bit `k` equal to `b`. -/
def setBit (v : Byte) (k : Nat) (b : Bool) : Byte :=
  if b then v ||| (1#8 <<< k) else v &&& ~~~(1#8 <<< k)

/-- A flag of the live P. -/
def State.flag (f : Flag) (s : State) : Bool := s.p.getLsbD f.bit

/-- The one write of P: every write leaves bit 5 = 1 (10_state.md R42). -/
def State.writeP (v : Byte) (s : State) : State := { s with p := v ||| constantBit }

/-- A write of one flag; the other bits of P stay (10_state.md R45). -/
def State.setFlag (f : Flag) (b : Bool) (s : State) : State := s.writeP (setBit s.p f.bit b)

/-- `SetZN(r)` (00_scope.md R14, 41_alu.md R170). -/
def State.setZN (r : Byte) (s : State) : State := (s.setFlag .z (r == 0)).setFlag .n (r.getLsbD 7)

/-- `Compare(reg, m)` (41_alu.md R177): C is the unsigned comparison, Z and N describe the difference mod 2^8. -/
def State.compare (reg m : Byte) (s : State) : State :=
  (s.setFlag .c (decide (m.toNat ≤ reg.toNat))).setZN (reg - m)

/-- `BIT_op(m)` (41_alu.md R184): Z from `A & m`, V and N from the operand. -/
def State.bitTest (m : Byte) (s : State) : State :=
  ((s.setFlag .z (s.a &&& m == 0)).setFlag .v (m.getLsbD 6)).setFlag .n (m.getLsbD 7)

/-- The copy of P that PHP and BRK push: B = 1 and bit 5 = 1 (60_exceptions.md R425). -/
def State.pushedByInstruction (s : State) : Byte := s.p ||| (constantBit ||| breakBit)

/-- The copy of P that IRQ and NMI push: B = 0 and bit 5 = 1 (60_exceptions.md R425). -/
def State.pushedByInterrupt (s : State) : Byte := (s.p ||| constantBit) &&& ~~~breakBit

end Sys2Proof.Machine
end

