-- ==== Sys2Proof/Machine/Ops.lean ====
section
/-! DEFINITION. The named operations over memory, registers and the stack, the shared entry into a handler with the return
from it, the memory environment, the trap hook, and the refusal of a byte (00_scope.md R13, R14, 10_state.md R34, 20_memory.md
R71, 60_exceptions.md R421, R440). -/

namespace Sys2Proof.Machine

/-! ## Memory as data -/

/-- The byte at address `k` of a canonical list. -/
def Memory.get (k : Nat) : Memory → Byte
  | [] => Memory.unlisted
  | c :: r => if k < c.1 then Memory.unlisted else if k = c.1 then c.2 else Memory.get k r

/-- A new cell in front, or none where the byte is what an unlisted address reads as. -/
def Memory.cons (k : Nat) (v : Byte) (r : Memory) : Memory := if v = Memory.unlisted then r else (k, v) :: r

/-- The list with the byte at address `k` replaced, in canonical form. -/
def Memory.put (k : Nat) (v : Byte) : Memory → Memory
  | [] => Memory.cons k v []
  | c :: r =>
    if k < c.1 then Memory.cons k v (c :: r)
    else if k = c.1 then Memory.cons k v r
    else c :: Memory.put k v r

/-- The byte of plain RAM at an address. -/
def Memory.read (m : Memory) (a : Word) : Byte := Memory.get a.toNat m

/-- Plain RAM with one byte replaced. -/
def Memory.write (m : Memory) (a : Word) (v : Byte) : Memory := Memory.put a.toNat v m

/-! ## The memory environment (20_memory.md R71) -/

/-- Whether a region holds an address. -/
def inRegion (r : Region) (a : Word) : Bool := decide (r.lo.toNat ≤ a.toNat) && decide (a.toNat ≤ r.hi.toNat)

/-- Whether `MEM_ENV` answers an access to `a` itself; if not, `a` is plain RAM. -/
def State.envOwns (a : Word) (s : State) : Bool := s.params.memEnv.any fun r => inRegion r a

/-- What `peek(a)` returns: the byte of plain RAM, or the environment's next answer, scripted or free. -/
def State.peekValue (a : Word) (s : State) : Byte :=
  if s.envOwns a then s.answers.headD (Config.memDraw s.draws) else s.mem.read a

/-- The environment's answers that are left after `peek(a)`. -/
def State.answersLeft (a : Word) (s : State) : List Byte := if s.envOwns a then s.answers.tail else s.answers

/-- The counter of free values after `peek(a)`. -/
def State.drawsLeft (a : Word) (s : State) : Nat := if s.envOwns a && s.answers.isEmpty then s.draws + 1 else s.draws

/-- Memory after `poke(a, v)`: a write that the environment takes changes no byte of plain RAM. -/
def State.pokeMem (a : Word) (v : Byte) (s : State) : Memory := if s.envOwns a then s.mem else s.mem.write a v

/-! ## Accesses, each recorded (20_memory.md R75 to R77) -/

/-- The state with one more event in the history. -/
def State.record (e : Event) (s : State) : State := { s with history := e :: s.history }

/-- The state after the core's read of `a`. -/
def State.afterRead (a : Word) (s : State) : State :=
  { s with answers := s.answersLeft a, draws := s.drawsLeft a, history := .read a (s.peekValue a) :: s.history }

/-- `MemRead(a, 1)`: the byte, and the state with the access recorded (00_scope.md R13). It never fails (20_memory.md R71). -/
def State.memRead (a : Word) (s : State) : Byte × State := (s.peekValue a, s.afterRead a)

/-- `MemWrite(a, 1, v)` (00_scope.md R13). It never fails. -/
def State.memWrite (a : Word) (v : Byte) (s : State) : State :=
  { s with mem := s.pokeMem a v, history := .write a v :: s.history }

/-- A read by the host, in the single order of accesses (20_memory.md R80, R85). -/
def State.hostRead (a : Word) (s : State) : State :=
  { s with answers := s.answersLeft a, draws := s.drawsLeft a, history := .hostRead a (s.peekValue a) :: s.history }

/-- A write by the host (20_memory.md R80, R85). -/
def State.hostWrite (a : Word) (v : Byte) (s : State) : State :=
  { s with mem := s.pokeMem a v, history := .hostWrite a v :: s.history }

/-- The two reads of a 16-bit value, the low byte first, at two given addresses. -/
def State.readPair (aLo aHi : Word) (s : State) : Word × State :=
  let (l, s) := s.memRead aLo
  let (h, s) := s.memRead aHi
  (word h l, s)

/-- `Read16(a)`: the high byte at `(a+1) mod 2^16` (00_scope.md R14). -/
def State.read16 (a : Word) (s : State) : Word × State := s.readPair a (a + 1)

/-- A zero-page address (00_scope.md R11, `zext_16`). -/
def zeroPage (z : Byte) : Word := z.setWidth 16

/-- The address of a pointer's high byte under the page-wrap bug: `(a & $FF00) | ((a+1) & $FF)` (00_scope.md R14). -/
def wrapInPage (a : Word) : Word := (a &&& 0xFF00) ||| ((a + 1) &&& 0x00FF)

/-! ## Registers -/

/-- A write of A. -/
def State.setA (v : Byte) (s : State) : State := { s with a := v }

/-- A write of X. -/
def State.setX (v : Byte) (s : State) : State := { s with x := v }

/-- A write of Y. -/
def State.setY (v : Byte) (s : State) : State := { s with y := v }

/-- A write of SP. -/
def State.setSp (v : Byte) (s : State) : State := { s with sp := v }

/-- `PC <- v`. -/
def State.setPc (v : Word) (s : State) : State := { s with pc := v }

/-- The effective-address latch (10_state.md R47). -/
def State.setEa (v : Word) (s : State) : State := { s with ea := v }

/-- The relative-offset latch (10_state.md R47). -/
def State.setRa (v : Byte) (s : State) : State := { s with ra := v }

/-- The opcode latch (10_state.md R47). -/
def State.setOpcode (v : Byte) (s : State) : State := { s with opcode := v }

/-! ## The stack (00_scope.md R14, 10_state.md R34) -/

/-- `$0100 | SP`. -/
def stackAddr (sp : Byte) : Word := 0x0100 ||| sp.setWidth 16

/-- `Push(v)`. -/
def State.push (v : Byte) (s : State) : State := (s.memWrite (stackAddr s.sp) v).setSp (s.sp - 1)

/-- `Pull()`. -/
def State.pull (s : State) : Byte × State := (s.setSp (s.sp + 1)).memRead (stackAddr (s.sp + 1))

/-- `Push16(w)`: the high byte, then the low byte. -/
def State.push16 (w : Word) (s : State) : State := (s.push (hi8 w)).push (lo8 w)

/-- `Pull16()`: the low byte, then the high byte. -/
def State.pull16 (s : State) : Word × State :=
  let (l, s) := s.pull
  let (h, s) := s.pull
  (word h l, s)

/-! ## Entering a handler and returning from it -/

/-- The NMI vector's address (60_exceptions.md R421). -/
def nmiVector : Word := 0xFFFA

/-- The reset vector's address (60_exceptions.md R421). -/
def resetVector : Word := 0xFFFC

/-- The vector's address that IRQ and BRK share (60_exceptions.md R421). -/
def irqVector : Word := 0xFFFE

/-- The shared push and vector pattern of BRK, IRQ and NMI: push the return address and a copy of P, set I, and load PC from
the vector (60_exceptions.md R421, R423, R424, 46_stack_flags_system.md R360). D and the live B stay (R40, R41). -/
def State.enterHandler (ret : Word) (pushed : Byte) (vector : Word) (s : State) : State :=
  let s := ((s.push16 ret).push pushed).setFlag .i true
  let (t, s) := s.read16 vector
  s.setPc t

/-- The return: P, with bit 5 forced, then PC with no adjustment (46_stack_flags_system.md R361, 60_exceptions.md R431). -/
def State.returnFromHandler (s : State) : State :=
  let (v, s) := s.pull
  let (w, s) := (s.writeP v).pull16
  s.setPc w

/-! ## The trap hook (60_exceptions.md R440) -/

/-- The callback that runs next: the scripted one if the state holds one, else a free one (92_eei_decisions.md D23). -/
def State.nextTrap (s : State) : TrapEffect := s.callbacks.headD (Config.trapDraw s.draws)

/-- `HostTrap(t)` opens: the call is recorded, and the callback stands open in front of those it interrupts, so that each of its
calls is a step of its own, and then its return (60_exceptions.md R432, R440). `push` is the return address that a JSR has
still to push if the callback falls through. -/
def State.openHook (t : Word) (push : Option Word) (s : State) : State :=
  { s with
    history := .hook t :: s.history
    openCallbacks :=
      { target := t, push := push, calls := s.nextTrap.calls, outcome := s.nextTrap.outcome } :: s.openCallbacks
    callbacks := s.callbacks.tail
    draws := if s.callbacks.isEmpty then s.draws + 1 else s.draws }

/-- `TrapTransfer(t)`: the exact match on the target, before control transfers (60_exceptions.md R440). -/
def State.trapTransfer (t : Word) (s : State) : State :=
  if t ∈ s.params.traps then s.openHook t none else s.setPc t

/-- A write of a register inside a callback; bit 5 of P stays 1 (60_exceptions.md R440). -/
def State.hostRegister (w : RegWrite) (s : State) : State :=
  match w with
  | .a v => s.setA v
  | .x v => s.setX v
  | .y v => s.setY v
  | .sp v => s.setSp v
  | .p v => s.writeP v
  | .pc v => s.setPc v

/-- The rest of the transfer once the callback has returned: PC and all state as the host left them, or the push that is due
and `PC <- target` (60_exceptions.md R440, 45_control.md R312). -/
def State.trapReturn (o : OpenCallback) (s : State) : State :=
  match o.outcome with
  | .redirect => s
  | .fallThrough =>
    match o.push with
    | none => s.setPc o.target
    | some ret => (s.push16 ret).setPc o.target

/-! ## Refusal -/

/-- `refuse UnmodelledOpcode(op, a)`. `PC` is already past the `len` bytes of the instruction, so `a` is `PC - len`
(47_undocumented.md R400). -/
def State.refuse (op : Byte) (len : Nat) (s : State) : Outcome :=
  .refused (.unmodelledOpcode op (s.pc - BitVec.ofNat 16 len))

/-- The outcome of a T3 byte: refused unless `ADMIT_T3` (40_addressing.md R140). -/
def State.ifAdmitT3 (op : Byte) (len : Nat) (s : State) (t : State) : Outcome :=
  if s.params.admitT3 then .next t else s.refuse op len

end Sys2Proof.Machine
end

