-- ==== Sys2Proof/Machine/Operands.lean ====
section
/-! DEFINITION. Every operand form: its effective address, the pointer reads it makes, `Resolve`, `Load` and `Store`
(40_addressing.md R141 to R154). PC stands past the instruction's bytes when these are used. -/

namespace Sys2Proof

/-- `sext_16` (00_scope.md R11). -/
def sext16 (d : Byte) : Word := d.signExtend 16

namespace Machine

/-- The addresses of the two pointer reads a mode makes, low byte first (40_addressing.md R150 to R152). -/
def State.pointerReads (o : Operand) (s : State) : Option (Word × Word) :=
  match o with
  | .indx z => some (zeroPage (z + s.x), zeroPage (z + s.x + 1))
  | .indy z => some (zeroPage z, zeroPage (z + 1))
  | .ind w => some (w, wrapInPage w)
  | .imp | .acc | .imm _ | .zp _ | .zpx _ | .zpy _ | .rel _ | .abs _ | .absx _ | .absy _ => none

/-- The pointer a mode reads, as a value (`$0000` for a mode that reads none). -/
def State.pointer (o : Operand) (s : State) : Word :=
  match s.pointerReads o with
  | some (aLo, aHi) => (s.readPair aLo aHi).1
  | none => 0

/-- The effective address of an operand (40_addressing.md R143 to R153). `imp` and `acc` have none: the latch keeps its
value (R141, R142). -/
def State.effective (o : Operand) (s : State) : Word :=
  match o with
  | .imp | .acc => s.ea
  | .imm _ => s.pc - 1
  | .zp z => zeroPage z
  | .zpx z => zeroPage (z + s.x)
  | .zpy z => zeroPage (z + s.y)
  | .rel d => s.pc + sext16 d
  | .indx z => s.pointer (.indx z)
  | .indy z => s.pointer (.indy z) + s.y.setWidth 16
  | .abs w => w
  | .absx w => w + s.x.setWidth 16
  | .absy w => w + s.y.setWidth 16
  | .ind w => s.pointer (.ind w)

/-- The pointer reads as recorded accesses. -/
def State.readPointer (o : Operand) (s : State) : State :=
  match s.pointerReads o with
  | some (aLo, aHi) => (s.readPair aLo aHi).2
  | none => s

/-- The `ra` latch: a branch's displacement byte, else as it was (40_addressing.md R153). -/
def State.offsetLatch (o : Operand) (s : State) : Byte :=
  match o with
  | .rel d => d
  | .imp | .acc | .imm _ | .zp _ | .zpx _ | .zpy _ | .indx _ | .indy _ | .abs _ | .absx _ | .absy _ | .ind _ => s.ra

/-- `ea <- Resolve(mode)`, the operand bytes already fetched (40_addressing.md R140). -/
def State.resolve (o : Operand) (s : State) : State :=
  ((s.readPointer o).setEa (s.effective o)).setRa (s.offsetLatch o)

/-- `Load(mode)` in a resolved state: A, the immediate byte (read once, by the fetch), or the byte at `ea`
(40_addressing.md R143, R154). `imp`, `rel` and `ind` have no Load: no meaning calls it on them. -/
def State.load (o : Operand) (s : State) : Byte × State :=
  match o with
  | .acc => (s.a, s)
  | .imm v => (v, s)
  | .imp | .zp _ | .zpx _ | .zpy _ | .rel _ | .indx _ | .indy _ | .abs _ | .absx _ | .absy _ | .ind _ => s.memRead s.ea

/-- `Store(mode, v)` in a resolved state: A, or the byte at `ea` (40_addressing.md R154). No meaning stores to an `imp`,
`imm`, `rel` or `ind` operand. -/
def State.store (o : Operand) (v : Byte) (s : State) : State :=
  match o with
  | .acc => s.setA v
  | .imp | .imm _ | .zp _ | .zpx _ | .zpy _ | .rel _ | .indx _ | .indy _ | .abs _ | .absx _ | .absy _ | .ind _ =>
    s.memWrite s.ea v

/-- The value `Load` gives for an operand of a state that is not resolved yet. -/
def State.operandValue (o : Operand) (s : State) : Byte :=
  match o with
  | .acc => s.a
  | .imm v => v
  | .imp | .zp _ | .zpx _ | .zpy _ | .rel _ | .indx _ | .indy _ | .abs _ | .absx _ | .absy _ | .ind _ =>
    (s.readPointer o).peekValue (s.effective o)

end Machine

end Sys2Proof
end

