-- ==== Sys2Proof/Machine/ArithLogic.lean ====
section
/-! DEFINITION. Arithmetic, logic, compare, bit test, increment and decrement (43_arith_logic.md R240 to R254), over
`ADC_op` and `SBC_op` (41_alu.md R175, R176, R186). -/

namespace Sys2Proof.Machine

/-- The result and flags of an addition or subtraction: A, C, V, then `SetZN` of the result (41_alu.md R175, R176). -/
def State.applyAlu (q : AluResult) (s : State) : State :=
  (((s.setA q.r).setFlag .c q.c).setFlag .v q.v).setZN q.r

/-- A decimal result that is any value (41_alu.md R186 under `DEC_NONBCD` = Draw): A, C, Z, V and N from a fresh draw. -/
def State.drawDecimal (s : State) : State :=
  let q := Config.decimalDraw s.draws
  let s := { s with a := q.r, draws := s.draws + 1 }
  (((s.setFlag .c q.c).setFlag .z q.z).setFlag .v q.v).setFlag .n q.n

/-- Whether a decimal operation on A and `m` gives a draw: a non-BCD nibble under `DEC_NONBCD` = Draw (41_alu.md R186). -/
def State.decimalIsOpen (m : Byte) (s : State) : Bool :=
  decide (s.params.decNonBcd = .draw) && !(isBcd s.a && isBcd m)

/-- `ADC_op(m)` (41_alu.md R175). -/
def State.addWithCarry (m : Byte) (s : State) : State :=
  if s.flag .d then
    if s.decimalIsOpen m then s.drawDecimal else s.applyAlu (addDec s.a m (s.flag .c))
  else s.applyAlu (addBin s.a m (s.flag .c))

/-- `SBC_op(m)` (41_alu.md R176). -/
def State.subWithBorrow (m : Byte) (s : State) : State :=
  if s.flag .d then
    if s.decimalIsOpen m then s.drawDecimal else s.applyAlu (subDec s.a m (s.flag .c))
  else s.applyAlu (subBin s.a m (s.flag .c))

/-- ADC: `m <- Load(mode); ADC_op(m)` (R240). -/
def adcOp (o : Operand) (s : State) : State :=
  let (m, s) := (s.resolve o).load o
  s.addWithCarry m

/-- ADC (zp,X), `$61` (R240). -/
def execAdcIndx (z : Byte) (s : State) : Outcome := .next (adcOp (.indx z) s)

/-- ADC zp, `$65` (R240). -/
def execAdcZp (z : Byte) (s : State) : Outcome := .next (adcOp (.zp z) s)

/-- ADC #, `$69` (R240). -/
def execAdcImm (v : Byte) (s : State) : Outcome := .next (adcOp (.imm v) s)

/-- ADC abs, `$6D` (R240). -/
def execAdcAbs (w : Word) (s : State) : Outcome := .next (adcOp (.abs w) s)

/-- ADC (zp),Y, `$71` (R240). -/
def execAdcIndy (z : Byte) (s : State) : Outcome := .next (adcOp (.indy z) s)

/-- ADC zp,X, `$75` (R240). -/
def execAdcZpx (z : Byte) (s : State) : Outcome := .next (adcOp (.zpx z) s)

/-- ADC abs,Y, `$79` (R240). -/
def execAdcAbsy (w : Word) (s : State) : Outcome := .next (adcOp (.absy w) s)

/-- ADC abs,X, `$7D` (R240). -/
def execAdcAbsx (w : Word) (s : State) : Outcome := .next (adcOp (.absx w) s)

/-- SBC: `m <- Load(mode); SBC_op(m)` (R241; the alias `$EB` is 47_undocumented.md R391). -/
def sbcOp (o : Operand) (s : State) : State :=
  let (m, s) := (s.resolve o).load o
  s.subWithBorrow m

/-- SBC (zp,X), `$E1` (R241). -/
def execSbcIndx (z : Byte) (s : State) : Outcome := .next (sbcOp (.indx z) s)

/-- SBC zp, `$E5` (R241). -/
def execSbcZp (z : Byte) (s : State) : Outcome := .next (sbcOp (.zp z) s)

/-- SBC #, `$E9` (R241). -/
def execSbcImm (v : Byte) (s : State) : Outcome := .next (sbcOp (.imm v) s)

/-- SBC #, `$EB` (R391). -/
def execSbcImmEB (v : Byte) (s : State) : Outcome := s.ifAdmitT3 0xEB 2 (sbcOp (.imm v) s)

/-- SBC abs, `$ED` (R241). -/
def execSbcAbs (w : Word) (s : State) : Outcome := .next (sbcOp (.abs w) s)

/-- SBC (zp),Y, `$F1` (R241). -/
def execSbcIndy (z : Byte) (s : State) : Outcome := .next (sbcOp (.indy z) s)

/-- SBC zp,X, `$F5` (R241). -/
def execSbcZpx (z : Byte) (s : State) : Outcome := .next (sbcOp (.zpx z) s)

/-- SBC abs,Y, `$F9` (R241). -/
def execSbcAbsy (w : Word) (s : State) : Outcome := .next (sbcOp (.absy w) s)

/-- SBC abs,X, `$FD` (R241). -/
def execSbcAbsx (w : Word) (s : State) : Outcome := .next (sbcOp (.absx w) s)

/-- AND: `m <- Load(mode); A <- A & m; SetZN(A)` (R242). -/
def andOp (o : Operand) (s : State) : State :=
  let (m, s) := (s.resolve o).load o
  (s.setA (s.a &&& m)).setZN (s.a &&& m)

/-- AND (zp,X), `$21` (R242). -/
def execAndIndx (z : Byte) (s : State) : Outcome := .next (andOp (.indx z) s)

/-- AND zp, `$25` (R242). -/
def execAndZp (z : Byte) (s : State) : Outcome := .next (andOp (.zp z) s)

/-- AND #, `$29` (R242). -/
def execAndImm (v : Byte) (s : State) : Outcome := .next (andOp (.imm v) s)

/-- AND abs, `$2D` (R242). -/
def execAndAbs (w : Word) (s : State) : Outcome := .next (andOp (.abs w) s)

/-- AND (zp),Y, `$31` (R242). -/
def execAndIndy (z : Byte) (s : State) : Outcome := .next (andOp (.indy z) s)

/-- AND zp,X, `$35` (R242). -/
def execAndZpx (z : Byte) (s : State) : Outcome := .next (andOp (.zpx z) s)

/-- AND abs,Y, `$39` (R242). -/
def execAndAbsy (w : Word) (s : State) : Outcome := .next (andOp (.absy w) s)

/-- AND abs,X, `$3D` (R242). -/
def execAndAbsx (w : Word) (s : State) : Outcome := .next (andOp (.absx w) s)

/-- ORA: `m <- Load(mode); A <- A | m; SetZN(A)` (R243). -/
def oraOp (o : Operand) (s : State) : State :=
  let (m, s) := (s.resolve o).load o
  (s.setA (s.a ||| m)).setZN (s.a ||| m)

/-- ORA (zp,X), `$01` (R243). -/
def execOraIndx (z : Byte) (s : State) : Outcome := .next (oraOp (.indx z) s)

/-- ORA zp, `$05` (R243). -/
def execOraZp (z : Byte) (s : State) : Outcome := .next (oraOp (.zp z) s)

/-- ORA #, `$09` (R243). -/
def execOraImm (v : Byte) (s : State) : Outcome := .next (oraOp (.imm v) s)

/-- ORA abs, `$0D` (R243). -/
def execOraAbs (w : Word) (s : State) : Outcome := .next (oraOp (.abs w) s)

/-- ORA (zp),Y, `$11` (R243). -/
def execOraIndy (z : Byte) (s : State) : Outcome := .next (oraOp (.indy z) s)

/-- ORA zp,X, `$15` (R243). -/
def execOraZpx (z : Byte) (s : State) : Outcome := .next (oraOp (.zpx z) s)

/-- ORA abs,Y, `$19` (R243). -/
def execOraAbsy (w : Word) (s : State) : Outcome := .next (oraOp (.absy w) s)

/-- ORA abs,X, `$1D` (R243). -/
def execOraAbsx (w : Word) (s : State) : Outcome := .next (oraOp (.absx w) s)

/-- EOR: `m <- Load(mode); A <- A ^ m; SetZN(A)` (R244). -/
def eorOp (o : Operand) (s : State) : State :=
  let (m, s) := (s.resolve o).load o
  (s.setA (s.a ^^^ m)).setZN (s.a ^^^ m)

/-- EOR (zp,X), `$41` (R244). -/
def execEorIndx (z : Byte) (s : State) : Outcome := .next (eorOp (.indx z) s)

/-- EOR zp, `$45` (R244). -/
def execEorZp (z : Byte) (s : State) : Outcome := .next (eorOp (.zp z) s)

/-- EOR #, `$49` (R244). -/
def execEorImm (v : Byte) (s : State) : Outcome := .next (eorOp (.imm v) s)

/-- EOR abs, `$4D` (R244). -/
def execEorAbs (w : Word) (s : State) : Outcome := .next (eorOp (.abs w) s)

/-- EOR (zp),Y, `$51` (R244). -/
def execEorIndy (z : Byte) (s : State) : Outcome := .next (eorOp (.indy z) s)

/-- EOR zp,X, `$55` (R244). -/
def execEorZpx (z : Byte) (s : State) : Outcome := .next (eorOp (.zpx z) s)

/-- EOR abs,Y, `$59` (R244). -/
def execEorAbsy (w : Word) (s : State) : Outcome := .next (eorOp (.absy w) s)

/-- EOR abs,X, `$5D` (R244). -/
def execEorAbsx (w : Word) (s : State) : Outcome := .next (eorOp (.absx w) s)

/-- CMP: `m <- Load(mode); Compare(A, m)` (R245). -/
def cmpOp (o : Operand) (s : State) : State :=
  let (m, s) := (s.resolve o).load o
  s.compare s.a m

/-- CMP (zp,X), `$C1` (R245). -/
def execCmpIndx (z : Byte) (s : State) : Outcome := .next (cmpOp (.indx z) s)

/-- CMP zp, `$C5` (R245). -/
def execCmpZp (z : Byte) (s : State) : Outcome := .next (cmpOp (.zp z) s)

/-- CMP #, `$C9` (R245). -/
def execCmpImm (v : Byte) (s : State) : Outcome := .next (cmpOp (.imm v) s)

/-- CMP abs, `$CD` (R245). -/
def execCmpAbs (w : Word) (s : State) : Outcome := .next (cmpOp (.abs w) s)

/-- CMP (zp),Y, `$D1` (R245). -/
def execCmpIndy (z : Byte) (s : State) : Outcome := .next (cmpOp (.indy z) s)

/-- CMP zp,X, `$D5` (R245). -/
def execCmpZpx (z : Byte) (s : State) : Outcome := .next (cmpOp (.zpx z) s)

/-- CMP abs,Y, `$D9` (R245). -/
def execCmpAbsy (w : Word) (s : State) : Outcome := .next (cmpOp (.absy w) s)

/-- CMP abs,X, `$DD` (R245). -/
def execCmpAbsx (w : Word) (s : State) : Outcome := .next (cmpOp (.absx w) s)

/-- CPX: `m <- Load(mode); Compare(X, m)` (R246). -/
def cpxOp (o : Operand) (s : State) : State :=
  let (m, s) := (s.resolve o).load o
  s.compare s.x m

/-- CPX #, `$E0` (R246). -/
def execCpxImm (v : Byte) (s : State) : Outcome := .next (cpxOp (.imm v) s)

/-- CPX zp, `$E4` (R246). -/
def execCpxZp (z : Byte) (s : State) : Outcome := .next (cpxOp (.zp z) s)

/-- CPX abs, `$EC` (R246). -/
def execCpxAbs (w : Word) (s : State) : Outcome := .next (cpxOp (.abs w) s)

/-- CPY: `m <- Load(mode); Compare(Y, m)` (R247). -/
def cpyOp (o : Operand) (s : State) : State :=
  let (m, s) := (s.resolve o).load o
  s.compare s.y m

/-- CPY #, `$C0` (R247). -/
def execCpyImm (v : Byte) (s : State) : Outcome := .next (cpyOp (.imm v) s)

/-- CPY zp, `$C4` (R247). -/
def execCpyZp (z : Byte) (s : State) : Outcome := .next (cpyOp (.zp z) s)

/-- CPY abs, `$CC` (R247). -/
def execCpyAbs (w : Word) (s : State) : Outcome := .next (cpyOp (.abs w) s)

/-- BIT: `m <- Load(mode); BIT_op(m)` (R248). -/
def bitOp (o : Operand) (s : State) : State :=
  let (m, s) := (s.resolve o).load o
  s.bitTest m

/-- BIT zp, `$24` (R248). -/
def execBitZp (z : Byte) (s : State) : Outcome := .next (bitOp (.zp z) s)

/-- BIT abs, `$2C` (R248). -/
def execBitAbs (w : Word) (s : State) : Outcome := .next (bitOp (.abs w) s)

/-- INC: one read, one write, then `SetZN` (R249). -/
def incOp (o : Operand) (s : State) : State :=
  let s := s.resolve o
  let (v, s) := s.memRead s.ea
  (s.memWrite s.ea (inc v)).setZN (inc v)

/-- INC zp, `$E6` (R249). -/
def execIncZp (z : Byte) (s : State) : Outcome := .next (incOp (.zp z) s)

/-- INC abs, `$EE` (R249). -/
def execIncAbs (w : Word) (s : State) : Outcome := .next (incOp (.abs w) s)

/-- INC zp,X, `$F6` (R249). -/
def execIncZpx (z : Byte) (s : State) : Outcome := .next (incOp (.zpx z) s)

/-- INC abs,X, `$FE` (R249). -/
def execIncAbsx (w : Word) (s : State) : Outcome := .next (incOp (.absx w) s)

/-- DEC: one read, one write, then `SetZN` (R250). -/
def decOp (o : Operand) (s : State) : State :=
  let s := s.resolve o
  let (v, s) := s.memRead s.ea
  (s.memWrite s.ea (dec v)).setZN (dec v)

/-- DEC zp, `$C6` (R250). -/
def execDecZp (z : Byte) (s : State) : Outcome := .next (decOp (.zp z) s)

/-- DEC abs, `$CE` (R250). -/
def execDecAbs (w : Word) (s : State) : Outcome := .next (decOp (.abs w) s)

/-- DEC zp,X, `$D6` (R250). -/
def execDecZpx (z : Byte) (s : State) : Outcome := .next (decOp (.zpx z) s)

/-- DEC abs,X, `$DE` (R250). -/
def execDecAbsx (w : Word) (s : State) : Outcome := .next (decOp (.absx w) s)

/-- INX: `X <- Inc(X); SetZN(X)` (R251). -/
def inxOp (s : State) : State := (s.setX (inc s.x)).setZN (inc s.x)

/-- INX, `$E8` (R251). -/
def execInx (s : State) : Outcome := .next (inxOp s)

/-- INY: `Y <- Inc(Y); SetZN(Y)` (R252). -/
def inyOp (s : State) : State := (s.setY (inc s.y)).setZN (inc s.y)

/-- INY, `$C8` (R252). -/
def execIny (s : State) : Outcome := .next (inyOp s)

/-- DEX: `X <- Dec(X); SetZN(X)` (R253). -/
def dexOp (s : State) : State := (s.setX (dec s.x)).setZN (dec s.x)

/-- DEX, `$CA` (R253). -/
def execDex (s : State) : Outcome := .next (dexOp s)

/-- DEY: `Y <- Dec(Y); SetZN(Y)` (R254). -/
def deyOp (s : State) : State := (s.setY (dec s.y)).setZN (dec s.y)

/-- DEY, `$88` (R254). -/
def execDey (s : State) : Outcome := .next (deyOp s)

end Sys2Proof.Machine
end

