-- ==== Sys2Proof/Machine/Control.lean ====
section
/-! DEFINITION. Branches, jumps and subroutines (45_control.md R300 to R313). -/

namespace Sys2Proof.Machine

/-- `Branch(cond)`: PC takes the resolved target if the condition holds (R300). -/
def branchOn (cond : Bool) (o : Operand) (s : State) : State :=
  let s := s.resolve o
  if cond then s.setPc s.ea else s

/-- BPL: `Branch(P.N = 0)` (R301). -/
def bplOp (o : Operand) (s : State) : State := branchOn (!s.flag .n) o s

/-- BPL rel, `$10` (R301). -/
def execBplRel (d : Byte) (s : State) : Outcome := .next (bplOp (.rel d) s)

/-- BMI: `Branch(P.N = 1)` (R302). -/
def bmiOp (o : Operand) (s : State) : State := branchOn (s.flag .n) o s

/-- BMI rel, `$30` (R302). -/
def execBmiRel (d : Byte) (s : State) : Outcome := .next (bmiOp (.rel d) s)

/-- BVC: `Branch(P.V = 0)` (R303). -/
def bvcOp (o : Operand) (s : State) : State := branchOn (!s.flag .v) o s

/-- BVC rel, `$50` (R303). -/
def execBvcRel (d : Byte) (s : State) : Outcome := .next (bvcOp (.rel d) s)

/-- BVS: `Branch(P.V = 1)` (R304). -/
def bvsOp (o : Operand) (s : State) : State := branchOn (s.flag .v) o s

/-- BVS rel, `$70` (R304). -/
def execBvsRel (d : Byte) (s : State) : Outcome := .next (bvsOp (.rel d) s)

/-- BCC: `Branch(P.C = 0)` (R305). -/
def bccOp (o : Operand) (s : State) : State := branchOn (!s.flag .c) o s

/-- BCC rel, `$90` (R305). -/
def execBccRel (d : Byte) (s : State) : Outcome := .next (bccOp (.rel d) s)

/-- BCS: `Branch(P.C = 1)` (R306). -/
def bcsOp (o : Operand) (s : State) : State := branchOn (s.flag .c) o s

/-- BCS rel, `$B0` (R306). -/
def execBcsRel (d : Byte) (s : State) : Outcome := .next (bcsOp (.rel d) s)

/-- BNE: `Branch(P.Z = 0)` (R307). -/
def bneOp (o : Operand) (s : State) : State := branchOn (!s.flag .z) o s

/-- BNE rel, `$D0` (R307). -/
def execBneRel (d : Byte) (s : State) : Outcome := .next (bneOp (.rel d) s)

/-- BEQ: `Branch(P.Z = 1)` (R308). -/
def beqOp (o : Operand) (s : State) : State := branchOn (s.flag .z) o s

/-- BEQ rel, `$F0` (R308). -/
def execBeqRel (d : Byte) (s : State) : Outcome := .next (beqOp (.rel d) s)

/-- JMP: `t <- ea; TrapTransfer(t)` (R310). -/
def jmpOp (o : Operand) (s : State) : State :=
  let s := s.resolve o
  s.trapTransfer s.ea

/-- JMP abs, `$4C` (R310). -/
def execJmpAbs (w : Word) (s : State) : Outcome := .next (jmpOp (.abs w) s)

/-- JMP (abs), `$6C` (R310). -/
def execJmpInd (w : Word) (s : State) : Outcome := .next (jmpOp (.ind w) s)

/-- JSR: push the address of its own last byte and transfer, the push before or after the trap hook as `TRAP_JSR_ORDER`
says; the two orders differ only where the hook fires (R312, 60_exceptions.md R441). -/
def jsrOp (o : Operand) (s : State) : State :=
  let s := s.resolve o
  let t := s.ea
  let ret := s.pc - 1
  if s.params.trapJsrOrder = .hookThenPush ∧ t ∈ s.params.traps then s.openHook t (some ret)
  else (s.push16 ret).trapTransfer t

/-- JSR abs, `$20` (R312). -/
def execJsrAbs (w : Word) (s : State) : Outcome := .next (jsrOp (.abs w) s)

/-- RTS: `w <- Pull16(); PC <- (w + 1) mod 2^16` (R313). -/
def rtsOp (s : State) : State :=
  let (w, s) := s.pull16
  s.setPc (w + 1)

/-- RTS, `$60` (R313). -/
def execRts (s : State) : Outcome := .next (rtsOp s)

end Sys2Proof.Machine
end

