-- ==== Sys2Proof/Machine/LoadStore.lean ====
section
/-! DEFINITION. Loads, stores and register transfers (42_load_store_transfer.md R200 to R211). -/

namespace Sys2Proof.Machine

/-- LDA: `v <- Load(mode); A <- v; SetZN(v)` (R200). -/
def ldaOp (o : Operand) (s : State) : State :=
  let (v, s) := (s.resolve o).load o
  (s.setA v).setZN v

/-- LDA (zp,X), `$A1` (R200). -/
def execLdaIndx (z : Byte) (s : State) : Outcome := .next (ldaOp (.indx z) s)

/-- LDA zp, `$A5` (R200). -/
def execLdaZp (z : Byte) (s : State) : Outcome := .next (ldaOp (.zp z) s)

/-- LDA #, `$A9` (R200). -/
def execLdaImm (v : Byte) (s : State) : Outcome := .next (ldaOp (.imm v) s)

/-- LDA abs, `$AD` (R200). -/
def execLdaAbs (w : Word) (s : State) : Outcome := .next (ldaOp (.abs w) s)

/-- LDA (zp),Y, `$B1` (R200). -/
def execLdaIndy (z : Byte) (s : State) : Outcome := .next (ldaOp (.indy z) s)

/-- LDA zp,X, `$B5` (R200). -/
def execLdaZpx (z : Byte) (s : State) : Outcome := .next (ldaOp (.zpx z) s)

/-- LDA abs,Y, `$B9` (R200). -/
def execLdaAbsy (w : Word) (s : State) : Outcome := .next (ldaOp (.absy w) s)

/-- LDA abs,X, `$BD` (R200). -/
def execLdaAbsx (w : Word) (s : State) : Outcome := .next (ldaOp (.absx w) s)

/-- LDX: `v <- Load(mode); X <- v; SetZN(v)` (R201). -/
def ldxOp (o : Operand) (s : State) : State :=
  let (v, s) := (s.resolve o).load o
  (s.setX v).setZN v

/-- LDX #, `$A2` (R201). -/
def execLdxImm (v : Byte) (s : State) : Outcome := .next (ldxOp (.imm v) s)

/-- LDX zp, `$A6` (R201). -/
def execLdxZp (z : Byte) (s : State) : Outcome := .next (ldxOp (.zp z) s)

/-- LDX abs, `$AE` (R201). -/
def execLdxAbs (w : Word) (s : State) : Outcome := .next (ldxOp (.abs w) s)

/-- LDX zp,Y, `$B6` (R201). -/
def execLdxZpy (z : Byte) (s : State) : Outcome := .next (ldxOp (.zpy z) s)

/-- LDX abs,Y, `$BE` (R201). -/
def execLdxAbsy (w : Word) (s : State) : Outcome := .next (ldxOp (.absy w) s)

/-- LDY: `v <- Load(mode); Y <- v; SetZN(v)` (R202). -/
def ldyOp (o : Operand) (s : State) : State :=
  let (v, s) := (s.resolve o).load o
  (s.setY v).setZN v

/-- LDY #, `$A0` (R202). -/
def execLdyImm (v : Byte) (s : State) : Outcome := .next (ldyOp (.imm v) s)

/-- LDY zp, `$A4` (R202). -/
def execLdyZp (z : Byte) (s : State) : Outcome := .next (ldyOp (.zp z) s)

/-- LDY abs, `$AC` (R202). -/
def execLdyAbs (w : Word) (s : State) : Outcome := .next (ldyOp (.abs w) s)

/-- LDY zp,X, `$B4` (R202). -/
def execLdyZpx (z : Byte) (s : State) : Outcome := .next (ldyOp (.zpx z) s)

/-- LDY abs,X, `$BC` (R202). -/
def execLdyAbsx (w : Word) (s : State) : Outcome := .next (ldyOp (.absx w) s)

/-- STA: `MemWrite(ea, 1, A)`, with no read of `ea` (R203). -/
def staOp (o : Operand) (s : State) : State :=
  let s := s.resolve o
  s.memWrite s.ea s.a

/-- STA (zp,X), `$81` (R203). -/
def execStaIndx (z : Byte) (s : State) : Outcome := .next (staOp (.indx z) s)

/-- STA zp, `$85` (R203). -/
def execStaZp (z : Byte) (s : State) : Outcome := .next (staOp (.zp z) s)

/-- STA abs, `$8D` (R203). -/
def execStaAbs (w : Word) (s : State) : Outcome := .next (staOp (.abs w) s)

/-- STA (zp),Y, `$91` (R203). -/
def execStaIndy (z : Byte) (s : State) : Outcome := .next (staOp (.indy z) s)

/-- STA zp,X, `$95` (R203). -/
def execStaZpx (z : Byte) (s : State) : Outcome := .next (staOp (.zpx z) s)

/-- STA abs,Y, `$99` (R203). -/
def execStaAbsy (w : Word) (s : State) : Outcome := .next (staOp (.absy w) s)

/-- STA abs,X, `$9D` (R203). -/
def execStaAbsx (w : Word) (s : State) : Outcome := .next (staOp (.absx w) s)

/-- STX: `MemWrite(ea, 1, X)` (R204). -/
def stxOp (o : Operand) (s : State) : State :=
  let s := s.resolve o
  s.memWrite s.ea s.x

/-- STX zp, `$86` (R204). -/
def execStxZp (z : Byte) (s : State) : Outcome := .next (stxOp (.zp z) s)

/-- STX abs, `$8E` (R204). -/
def execStxAbs (w : Word) (s : State) : Outcome := .next (stxOp (.abs w) s)

/-- STX zp,Y, `$96` (R204). -/
def execStxZpy (z : Byte) (s : State) : Outcome := .next (stxOp (.zpy z) s)

/-- STY: `MemWrite(ea, 1, Y)` (R205). -/
def styOp (o : Operand) (s : State) : State :=
  let s := s.resolve o
  s.memWrite s.ea s.y

/-- STY zp, `$84` (R205). -/
def execStyZp (z : Byte) (s : State) : Outcome := .next (styOp (.zp z) s)

/-- STY abs, `$8C` (R205). -/
def execStyAbs (w : Word) (s : State) : Outcome := .next (styOp (.abs w) s)

/-- STY zp,X, `$94` (R205). -/
def execStyZpx (z : Byte) (s : State) : Outcome := .next (styOp (.zpx z) s)

/-- TAX: `X <- A; SetZN(X)` (R206). -/
def taxOp (s : State) : State := (s.setX s.a).setZN s.a

/-- TAX, `$AA` (R206). -/
def execTax (s : State) : Outcome := .next (taxOp s)

/-- TAY: `Y <- A; SetZN(Y)` (R207). -/
def tayOp (s : State) : State := (s.setY s.a).setZN s.a

/-- TAY, `$A8` (R207). -/
def execTay (s : State) : Outcome := .next (tayOp s)

/-- TXA: `A <- X; SetZN(A)` (R208). -/
def txaOp (s : State) : State := (s.setA s.x).setZN s.x

/-- TXA, `$8A` (R208). -/
def execTxa (s : State) : Outcome := .next (txaOp s)

/-- TYA: `A <- Y; SetZN(A)` (R209). -/
def tyaOp (s : State) : State := (s.setA s.y).setZN s.y

/-- TYA, `$98` (R209). -/
def execTya (s : State) : Outcome := .next (tyaOp s)

/-- TSX: `X <- SP; SetZN(X)` (R210). -/
def tsxOp (s : State) : State := (s.setX s.sp).setZN s.sp

/-- TSX, `$BA` (R210). -/
def execTsx (s : State) : Outcome := .next (tsxOp s)

/-- TXS: `SP <- X`, with no flag (R211). -/
def txsOp (s : State) : State := s.setSp s.x

/-- TXS, `$9A` (R211). -/
def execTxs (s : State) : Outcome := .next (txsOp s)

end Sys2Proof.Machine
end

