-- ==== Sys2Proof/Machine/ShiftRotate.lean ====
section
/-! DEFINITION. Shifts and rotates on A or on memory (44_shift_rotate.md R270 to R273, 41_alu.md R178 to R181). -/

namespace Sys2Proof.Machine

/-- The flags of a shift: C from the bit shifted out, `SetZN` of the result (41_alu.md R178 to R181). -/
def State.shiftFlags (q : ShiftResult) (s : State) : State := (s.setFlag .c q.out).setZN q.r

/-- ASL: `v <- Load(mode); r <- ASL_op(v); Store(mode, r)` (R270). -/
def aslOp (o : Operand) (s : State) : State :=
  let (v, s) := (s.resolve o).load o
  (s.shiftFlags (asl v)).store o (asl v).r

/-- ASL zp, `$06` (R270). -/
def execAslZp (z : Byte) (s : State) : Outcome := .next (aslOp (.zp z) s)

/-- ASL A, `$0A` (R270). -/
def execAslAcc (s : State) : Outcome := .next (aslOp .acc s)

/-- ASL abs, `$0E` (R270). -/
def execAslAbs (w : Word) (s : State) : Outcome := .next (aslOp (.abs w) s)

/-- ASL zp,X, `$16` (R270). -/
def execAslZpx (z : Byte) (s : State) : Outcome := .next (aslOp (.zpx z) s)

/-- ASL abs,X, `$1E` (R270). -/
def execAslAbsx (w : Word) (s : State) : Outcome := .next (aslOp (.absx w) s)

/-- LSR: `v <- Load(mode); r <- LSR_op(v); Store(mode, r)` (R271). -/
def lsrOp (o : Operand) (s : State) : State :=
  let (v, s) := (s.resolve o).load o
  (s.shiftFlags (lsr v)).store o (lsr v).r

/-- LSR zp, `$46` (R271). -/
def execLsrZp (z : Byte) (s : State) : Outcome := .next (lsrOp (.zp z) s)

/-- LSR A, `$4A` (R271). -/
def execLsrAcc (s : State) : Outcome := .next (lsrOp .acc s)

/-- LSR abs, `$4E` (R271). -/
def execLsrAbs (w : Word) (s : State) : Outcome := .next (lsrOp (.abs w) s)

/-- LSR zp,X, `$56` (R271). -/
def execLsrZpx (z : Byte) (s : State) : Outcome := .next (lsrOp (.zpx z) s)

/-- LSR abs,X, `$5E` (R271). -/
def execLsrAbsx (w : Word) (s : State) : Outcome := .next (lsrOp (.absx w) s)

/-- ROL: `v <- Load(mode); r <- ROL_op(v); Store(mode, r)` (R272). -/
def rolOp (o : Operand) (s : State) : State :=
  let (v, s) := (s.resolve o).load o
  let q := rol v (s.flag .c)
  (s.shiftFlags q).store o q.r

/-- ROL zp, `$26` (R272). -/
def execRolZp (z : Byte) (s : State) : Outcome := .next (rolOp (.zp z) s)

/-- ROL A, `$2A` (R272). -/
def execRolAcc (s : State) : Outcome := .next (rolOp .acc s)

/-- ROL abs, `$2E` (R272). -/
def execRolAbs (w : Word) (s : State) : Outcome := .next (rolOp (.abs w) s)

/-- ROL zp,X, `$36` (R272). -/
def execRolZpx (z : Byte) (s : State) : Outcome := .next (rolOp (.zpx z) s)

/-- ROL abs,X, `$3E` (R272). -/
def execRolAbsx (w : Word) (s : State) : Outcome := .next (rolOp (.absx w) s)

/-- ROR: `v <- Load(mode); r <- ROR_op(v); Store(mode, r)` (R273). -/
def rorOp (o : Operand) (s : State) : State :=
  let (v, s) := (s.resolve o).load o
  let q := ror v (s.flag .c)
  (s.shiftFlags q).store o q.r

/-- ROR zp, `$66` (R273). -/
def execRorZp (z : Byte) (s : State) : Outcome := .next (rorOp (.zp z) s)

/-- ROR A, `$6A` (R273). -/
def execRorAcc (s : State) : Outcome := .next (rorOp .acc s)

/-- ROR abs, `$6E` (R273). -/
def execRorAbs (w : Word) (s : State) : Outcome := .next (rorOp (.abs w) s)

/-- ROR zp,X, `$76` (R273). -/
def execRorZpx (z : Byte) (s : State) : Outcome := .next (rorOp (.zpx z) s)

/-- ROR abs,X, `$7E` (R273). -/
def execRorAbsx (w : Word) (s : State) : Outcome := .next (rorOp (.absx w) s)

end Sys2Proof.Machine
end

