-- ==== Sys2Proof/Machine/StackSystem.lean ====
section
/-! DEFINITION. Stack, flag and system instructions (46_stack_flags_system.md R330 to R361). -/

namespace Sys2Proof.Machine

/-- PHA: `Push(A)` (R330). -/
def phaOp (s : State) : State := s.push s.a

/-- PHA, `$48` (R330). -/
def execPha (s : State) : Outcome := .next (phaOp s)

/-- PLA: `A <- Pull(); SetZN(A)` (R331). -/
def plaOp (s : State) : State :=
  let (v, s) := s.pull
  (s.setA v).setZN v

/-- PLA, `$68` (R331). -/
def execPla (s : State) : Outcome := .next (plaOp s)

/-- PHP: `Push(P | $30)`; the live P stays (R332). -/
def phpOp (s : State) : State := s.push s.pushedByInstruction

/-- PHP, `$08` (R332). -/
def execPhp (s : State) : Outcome := .next (phpOp s)

/-- PLP: `P <- Pull() | $20` (R333). -/
def plpOp (s : State) : State :=
  let (v, s) := s.pull
  s.writeP v

/-- PLP, `$28` (R333). -/
def execPlp (s : State) : Outcome := .next (plpOp s)

/-- CLC: `P.C <- 0` (R334). -/
def clcOp (s : State) : State := s.setFlag .c false

/-- CLC, `$18` (R334). -/
def execClc (s : State) : Outcome := .next (clcOp s)

/-- SEC: `P.C <- 1` (R335). -/
def secOp (s : State) : State := s.setFlag .c true

/-- SEC, `$38` (R335). -/
def execSec (s : State) : Outcome := .next (secOp s)

/-- CLI: `P.I <- 0` (R336). -/
def cliOp (s : State) : State := s.setFlag .i false

/-- CLI, `$58` (R336). -/
def execCli (s : State) : Outcome := .next (cliOp s)

/-- SEI: `P.I <- 1` (R337). -/
def seiOp (s : State) : State := s.setFlag .i true

/-- SEI, `$78` (R337). -/
def execSei (s : State) : Outcome := .next (seiOp s)

/-- CLD: `P.D <- 0` (R338). -/
def cldOp (s : State) : State := s.setFlag .d false

/-- CLD, `$D8` (R338). -/
def execCld (s : State) : Outcome := .next (cldOp s)

/-- SED: `P.D <- 1` (R339). -/
def sedOp (s : State) : State := s.setFlag .d true

/-- SED, `$F8` (R339). -/
def execSed (s : State) : Outcome := .next (sedOp s)

/-- CLV: `P.V <- 0` (R340). -/
def clvOp (s : State) : State := s.setFlag .v false

/-- CLV, `$B8` (R340). -/
def execClv (s : State) : Outcome := .next (clvOp s)

/-- NOP: only PC has advanced (R341). -/
def execNop (s : State) : Outcome := .next s

/-- BRK: push `PC + 1` and `P | $30`, set I, and load PC from $FFFE, whatever I was; the padding byte is not read (R360). -/
def brkOp (s : State) : State := s.enterHandler (s.pc + 1) s.pushedByInstruction irqVector

/-- BRK, `$00` (R360). -/
def execBrk (s : State) : Outcome := .next (brkOp s)

/-- RTI: `P <- Pull() | $20; PC <- Pull16()` (R361). -/
def rtiOp (s : State) : State := s.returnFromHandler

/-- RTI, `$40` (R361). -/
def execRti (s : State) : Outcome := .next (rtiOp s)

end Sys2Proof.Machine
end

