-- ==== Sys2Proof/Machine/Undocumented.lean ====
section
/-! DEFINITION. Undocumented opcodes and refused bytes (47_undocumented.md R370 to R412). -/

namespace Sys2Proof.Machine

/-- SLO: shift the byte left, then OR it into A (R370). -/
def sloOp (o : Operand) (s : State) : State :=
  let s := s.resolve o
  let (v, s) := s.memRead s.ea
  let s := (s.shiftFlags (asl v)).memWrite s.ea (asl v).r
  (s.setA (s.a ||| (asl v).r)).setZN (s.a ||| (asl v).r)

/-- SLO (zp,X), `$03` (R370). -/
def execSloIndx (z : Byte) (s : State) : Outcome := .next (sloOp (.indx z) s)

/-- SLO zp, `$07` (R370). -/
def execSloZp (z : Byte) (s : State) : Outcome := .next (sloOp (.zp z) s)

/-- SLO abs, `$0F` (R370). -/
def execSloAbs (w : Word) (s : State) : Outcome := .next (sloOp (.abs w) s)

/-- SLO (zp),Y, `$13` (R370). -/
def execSloIndy (z : Byte) (s : State) : Outcome := .next (sloOp (.indy z) s)

/-- SLO zp,X, `$17` (R370). -/
def execSloZpx (z : Byte) (s : State) : Outcome := .next (sloOp (.zpx z) s)

/-- SLO abs,Y, `$1B` (R370). -/
def execSloAbsy (w : Word) (s : State) : Outcome := .next (sloOp (.absy w) s)

/-- SLO abs,X, `$1F` (R370). -/
def execSloAbsx (w : Word) (s : State) : Outcome := .next (sloOp (.absx w) s)

/-- RLA: rotate the byte left, then AND it into A (R371). -/
def rlaOp (o : Operand) (s : State) : State :=
  let s := s.resolve o
  let (v, s) := s.memRead s.ea
  let q := rol v (s.flag .c)
  let s := (s.shiftFlags q).memWrite s.ea q.r
  (s.setA (s.a &&& q.r)).setZN (s.a &&& q.r)

/-- RLA (zp,X), `$23` (R371). -/
def execRlaIndx (z : Byte) (s : State) : Outcome := .next (rlaOp (.indx z) s)

/-- RLA zp, `$27` (R371). -/
def execRlaZp (z : Byte) (s : State) : Outcome := .next (rlaOp (.zp z) s)

/-- RLA abs, `$2F` (R371). -/
def execRlaAbs (w : Word) (s : State) : Outcome := .next (rlaOp (.abs w) s)

/-- RLA (zp),Y, `$33` (R371). -/
def execRlaIndy (z : Byte) (s : State) : Outcome := .next (rlaOp (.indy z) s)

/-- RLA zp,X, `$37` (R371). -/
def execRlaZpx (z : Byte) (s : State) : Outcome := .next (rlaOp (.zpx z) s)

/-- RLA abs,Y, `$3B` (R371). -/
def execRlaAbsy (w : Word) (s : State) : Outcome := .next (rlaOp (.absy w) s)

/-- RLA abs,X, `$3F` (R371). -/
def execRlaAbsx (w : Word) (s : State) : Outcome := .next (rlaOp (.absx w) s)

/-- SRE: shift the byte right, then EOR it into A (R372). -/
def sreOp (o : Operand) (s : State) : State :=
  let s := s.resolve o
  let (v, s) := s.memRead s.ea
  let s := (s.shiftFlags (lsr v)).memWrite s.ea (lsr v).r
  (s.setA (s.a ^^^ (lsr v).r)).setZN (s.a ^^^ (lsr v).r)

/-- SRE (zp,X), `$43` (R372). -/
def execSreIndx (z : Byte) (s : State) : Outcome := .next (sreOp (.indx z) s)

/-- SRE zp, `$47` (R372). -/
def execSreZp (z : Byte) (s : State) : Outcome := .next (sreOp (.zp z) s)

/-- SRE abs, `$4F` (R372). -/
def execSreAbs (w : Word) (s : State) : Outcome := .next (sreOp (.abs w) s)

/-- SRE (zp),Y, `$53` (R372). -/
def execSreIndy (z : Byte) (s : State) : Outcome := .next (sreOp (.indy z) s)

/-- SRE zp,X, `$57` (R372). -/
def execSreZpx (z : Byte) (s : State) : Outcome := .next (sreOp (.zpx z) s)

/-- SRE abs,Y, `$5B` (R372). -/
def execSreAbsy (w : Word) (s : State) : Outcome := .next (sreOp (.absy w) s)

/-- SRE abs,X, `$5F` (R372). -/
def execSreAbsx (w : Word) (s : State) : Outcome := .next (sreOp (.absx w) s)

/-- RRA: rotate the byte right, then add it, the carry-in being the bit rotated out (R373). -/
def rraOp (o : Operand) (s : State) : State :=
  let s := s.resolve o
  let (v, s) := s.memRead s.ea
  let q := ror v (s.flag .c)
  ((s.shiftFlags q).memWrite s.ea q.r).addWithCarry q.r

/-- RRA (zp,X), `$63` (R373). -/
def execRraIndx (z : Byte) (s : State) : Outcome := .next (rraOp (.indx z) s)

/-- RRA zp, `$67` (R373). -/
def execRraZp (z : Byte) (s : State) : Outcome := .next (rraOp (.zp z) s)

/-- RRA abs, `$6F` (R373). -/
def execRraAbs (w : Word) (s : State) : Outcome := .next (rraOp (.abs w) s)

/-- RRA (zp),Y, `$73` (R373). -/
def execRraIndy (z : Byte) (s : State) : Outcome := .next (rraOp (.indy z) s)

/-- RRA zp,X, `$77` (R373). -/
def execRraZpx (z : Byte) (s : State) : Outcome := .next (rraOp (.zpx z) s)

/-- RRA abs,Y, `$7B` (R373). -/
def execRraAbsy (w : Word) (s : State) : Outcome := .next (rraOp (.absy w) s)

/-- RRA abs,X, `$7F` (R373). -/
def execRraAbsx (w : Word) (s : State) : Outcome := .next (rraOp (.absx w) s)

/-- SAX: `MemWrite(ea, 1, A & X)`, with no read of `ea` and no flag (R374). -/
def saxOp (o : Operand) (s : State) : State :=
  let s := s.resolve o
  s.memWrite s.ea (s.a &&& s.x)

/-- SAX (zp,X), `$83` (R374). -/
def execSaxIndx (z : Byte) (s : State) : Outcome := .next (saxOp (.indx z) s)

/-- SAX zp, `$87` (R374). -/
def execSaxZp (z : Byte) (s : State) : Outcome := .next (saxOp (.zp z) s)

/-- SAX abs, `$8F` (R374). -/
def execSaxAbs (w : Word) (s : State) : Outcome := .next (saxOp (.abs w) s)

/-- SAX zp,Y, `$97` (R374). -/
def execSaxZpy (z : Byte) (s : State) : Outcome := .next (saxOp (.zpy z) s)

/-- LAX: load A and X with one byte (R375). -/
def laxOp (o : Operand) (s : State) : State :=
  let s := s.resolve o
  let (v, s) := s.memRead s.ea
  ((s.setA v).setX v).setZN v

/-- LAX (zp,X), `$A3` (R375). -/
def execLaxIndx (z : Byte) (s : State) : Outcome := .next (laxOp (.indx z) s)

/-- LAX zp, `$A7` (R375). -/
def execLaxZp (z : Byte) (s : State) : Outcome := .next (laxOp (.zp z) s)

/-- LAX abs, `$AF` (R375). -/
def execLaxAbs (w : Word) (s : State) : Outcome := .next (laxOp (.abs w) s)

/-- LAX (zp),Y, `$B3` (R375). -/
def execLaxIndy (z : Byte) (s : State) : Outcome := .next (laxOp (.indy z) s)

/-- LAX zp,Y, `$B7` (R375). -/
def execLaxZpy (z : Byte) (s : State) : Outcome := .next (laxOp (.zpy z) s)

/-- LAX abs,Y, `$BF` (R375). -/
def execLaxAbsy (w : Word) (s : State) : Outcome := .next (laxOp (.absy w) s)

/-- DCP: decrement the byte, then compare A with it (R376). -/
def dcpOp (o : Operand) (s : State) : State :=
  let s := s.resolve o
  let (v, s) := s.memRead s.ea
  (s.memWrite s.ea (dec v)).compare s.a (dec v)

/-- DCP (zp,X), `$C3` (R376). -/
def execDcpIndx (z : Byte) (s : State) : Outcome := .next (dcpOp (.indx z) s)

/-- DCP zp, `$C7` (R376). -/
def execDcpZp (z : Byte) (s : State) : Outcome := .next (dcpOp (.zp z) s)

/-- DCP abs, `$CF` (R376). -/
def execDcpAbs (w : Word) (s : State) : Outcome := .next (dcpOp (.abs w) s)

/-- DCP (zp),Y, `$D3` (R376). -/
def execDcpIndy (z : Byte) (s : State) : Outcome := .next (dcpOp (.indy z) s)

/-- DCP zp,X, `$D7` (R376). -/
def execDcpZpx (z : Byte) (s : State) : Outcome := .next (dcpOp (.zpx z) s)

/-- DCP abs,Y, `$DB` (R376). -/
def execDcpAbsy (w : Word) (s : State) : Outcome := .next (dcpOp (.absy w) s)

/-- DCP abs,X, `$DF` (R376). -/
def execDcpAbsx (w : Word) (s : State) : Outcome := .next (dcpOp (.absx w) s)

/-- ISB: increment the byte, then subtract it (R377). -/
def isbOp (o : Operand) (s : State) : State :=
  let s := s.resolve o
  let (v, s) := s.memRead s.ea
  (s.memWrite s.ea (inc v)).subWithBorrow (inc v)

/-- ISB (zp,X), `$E3` (R377). -/
def execIsbIndx (z : Byte) (s : State) : Outcome := .next (isbOp (.indx z) s)

/-- ISB zp, `$E7` (R377). -/
def execIsbZp (z : Byte) (s : State) : Outcome := .next (isbOp (.zp z) s)

/-- ISB abs, `$EF` (R377). -/
def execIsbAbs (w : Word) (s : State) : Outcome := .next (isbOp (.abs w) s)

/-- ISB (zp),Y, `$F3` (R377). -/
def execIsbIndy (z : Byte) (s : State) : Outcome := .next (isbOp (.indy z) s)

/-- ISB zp,X, `$F7` (R377). -/
def execIsbZpx (z : Byte) (s : State) : Outcome := .next (isbOp (.zpx z) s)

/-- ISB abs,Y, `$FB` (R377). -/
def execIsbAbsy (w : Word) (s : State) : Outcome := .next (isbOp (.absy w) s)

/-- ISB abs,X, `$FF` (R377). -/
def execIsbAbsx (w : Word) (s : State) : Outcome := .next (isbOp (.absx w) s)

/-! ## T3: undocumented NOPs. The alias `$EB` is `execSbcImmEB`, beside SBC. -/

/-- NOP with an operand: the operand is read and discarded, and nothing else happens (R390). -/
def nopOp (o : Operand) (s : State) : State :=
  match o with
  | .imp => s
  | .acc | .imm _ | .zp _ | .zpx _ | .zpy _ | .rel _ | .indx _ | .indy _ | .abs _ | .absx _ | .absy _ | .ind _ =>
    ((s.resolve o).load o).2

/-- NOP zp, `$04` (R390). -/
def execNopZp04 (z : Byte) (s : State) : Outcome := s.ifAdmitT3 0x04 2 (nopOp (.zp z) s)

/-- NOP abs, `$0C` (R390). -/
def execNopAbs0C (w : Word) (s : State) : Outcome := s.ifAdmitT3 0x0C 3 (nopOp (.abs w) s)

/-- NOP zp,X, `$14` (R390). -/
def execNopZpx14 (z : Byte) (s : State) : Outcome := s.ifAdmitT3 0x14 2 (nopOp (.zpx z) s)

/-- NOP, `$1A` (R390). -/
def execNopImp1A (s : State) : Outcome := s.ifAdmitT3 0x1A 1 (nopOp .imp s)

/-- NOP abs,X, `$1C` (R390). -/
def execNopAbsx1C (w : Word) (s : State) : Outcome := s.ifAdmitT3 0x1C 3 (nopOp (.absx w) s)

/-- NOP zp,X, `$34` (R390). -/
def execNopZpx34 (z : Byte) (s : State) : Outcome := s.ifAdmitT3 0x34 2 (nopOp (.zpx z) s)

/-- NOP, `$3A` (R390). -/
def execNopImp3A (s : State) : Outcome := s.ifAdmitT3 0x3A 1 (nopOp .imp s)

/-- NOP abs,X, `$3C` (R390). -/
def execNopAbsx3C (w : Word) (s : State) : Outcome := s.ifAdmitT3 0x3C 3 (nopOp (.absx w) s)

/-- NOP zp, `$44` (R390). -/
def execNopZp44 (z : Byte) (s : State) : Outcome := s.ifAdmitT3 0x44 2 (nopOp (.zp z) s)

/-- NOP zp,X, `$54` (R390). -/
def execNopZpx54 (z : Byte) (s : State) : Outcome := s.ifAdmitT3 0x54 2 (nopOp (.zpx z) s)

/-- NOP, `$5A` (R390). -/
def execNopImp5A (s : State) : Outcome := s.ifAdmitT3 0x5A 1 (nopOp .imp s)

/-- NOP abs,X, `$5C` (R390). -/
def execNopAbsx5C (w : Word) (s : State) : Outcome := s.ifAdmitT3 0x5C 3 (nopOp (.absx w) s)

/-- NOP zp, `$64` (R390). -/
def execNopZp64 (z : Byte) (s : State) : Outcome := s.ifAdmitT3 0x64 2 (nopOp (.zp z) s)

/-- NOP zp,X, `$74` (R390). -/
def execNopZpx74 (z : Byte) (s : State) : Outcome := s.ifAdmitT3 0x74 2 (nopOp (.zpx z) s)

/-- NOP, `$7A` (R390). -/
def execNopImp7A (s : State) : Outcome := s.ifAdmitT3 0x7A 1 (nopOp .imp s)

/-- NOP abs,X, `$7C` (R390). -/
def execNopAbsx7C (w : Word) (s : State) : Outcome := s.ifAdmitT3 0x7C 3 (nopOp (.absx w) s)

/-- NOP #, `$80` (R390). -/
def execNopImm80 (v : Byte) (s : State) : Outcome := s.ifAdmitT3 0x80 2 (nopOp (.imm v) s)

/-- NOP #, `$82` (R390). -/
def execNopImm82 (v : Byte) (s : State) : Outcome := s.ifAdmitT3 0x82 2 (nopOp (.imm v) s)

/-- NOP #, `$89` (R390). -/
def execNopImm89 (v : Byte) (s : State) : Outcome := s.ifAdmitT3 0x89 2 (nopOp (.imm v) s)

/-- NOP #, `$C2` (R390). -/
def execNopImmC2 (v : Byte) (s : State) : Outcome := s.ifAdmitT3 0xC2 2 (nopOp (.imm v) s)

/-- NOP zp,X, `$D4` (R390). -/
def execNopZpxD4 (z : Byte) (s : State) : Outcome := s.ifAdmitT3 0xD4 2 (nopOp (.zpx z) s)

/-- NOP, `$DA` (R390). -/
def execNopImpDA (s : State) : Outcome := s.ifAdmitT3 0xDA 1 (nopOp .imp s)

/-- NOP abs,X, `$DC` (R390). -/
def execNopAbsxDC (w : Word) (s : State) : Outcome := s.ifAdmitT3 0xDC 3 (nopOp (.absx w) s)

/-- NOP #, `$E2` (R390). -/
def execNopImmE2 (v : Byte) (s : State) : Outcome := s.ifAdmitT3 0xE2 2 (nopOp (.imm v) s)

/-- NOP zp,X, `$F4` (R390). -/
def execNopZpxF4 (z : Byte) (s : State) : Outcome := s.ifAdmitT3 0xF4 2 (nopOp (.zpx z) s)

/-- NOP, `$FA` (R390). -/
def execNopImpFA (s : State) : Outcome := s.ifAdmitT3 0xFA 1 (nopOp .imp s)

/-- NOP abs,X, `$FC` (R390). -/
def execNopAbsxFC (w : Word) (s : State) : Outcome := s.ifAdmitT3 0xFC 3 (nopOp (.absx w) s)

/-! ## T4: the refused bytes (R400). Each refuses `UnmodelledOpcode(op, a)`, as its rule says. -/

/-- JAM, `$02` (R401). -/
def execJam02 (s : State) : Outcome := s.refuse 0x02 1

/-- JAM, `$12` (R401). -/
def execJam12 (s : State) : Outcome := s.refuse 0x12 1

/-- JAM, `$22` (R401). -/
def execJam22 (s : State) : Outcome := s.refuse 0x22 1

/-- JAM, `$32` (R401). -/
def execJam32 (s : State) : Outcome := s.refuse 0x32 1

/-- JAM, `$42` (R401). -/
def execJam42 (s : State) : Outcome := s.refuse 0x42 1

/-- JAM, `$52` (R401). -/
def execJam52 (s : State) : Outcome := s.refuse 0x52 1

/-- JAM, `$62` (R401). -/
def execJam62 (s : State) : Outcome := s.refuse 0x62 1

/-- JAM, `$72` (R401). -/
def execJam72 (s : State) : Outcome := s.refuse 0x72 1

/-- JAM, `$92` (R401). -/
def execJam92 (s : State) : Outcome := s.refuse 0x92 1

/-- JAM, `$B2` (R401). -/
def execJamB2 (s : State) : Outcome := s.refuse 0xB2 1

/-- JAM, `$D2` (R401). -/
def execJamD2 (s : State) : Outcome := s.refuse 0xD2 1

/-- JAM, `$F2` (R401). -/
def execJamF2 (s : State) : Outcome := s.refuse 0xF2 1

/-- ANC #, `$0B` (R402). -/
def execAncImm0B (_v : Byte) (s : State) : Outcome := s.refuse 0x0B 2

/-- ANC #, `$2B` (R402). -/
def execAncImm2B (_v : Byte) (s : State) : Outcome := s.refuse 0x2B 2

/-- ALR #, `$4B` (R403). -/
def execAlrImm (_v : Byte) (s : State) : Outcome := s.refuse 0x4B 2

/-- ARR #, `$6B` (R404). -/
def execArrImm (_v : Byte) (s : State) : Outcome := s.refuse 0x6B 2

/-- XAA #, `$8B` (R405). -/
def execXaaImm (_v : Byte) (s : State) : Outcome := s.refuse 0x8B 2

/-- LXA #, `$AB` (R406). -/
def execLxaImm (_v : Byte) (s : State) : Outcome := s.refuse 0xAB 2

/-- AXS #, `$CB` (R407). -/
def execAxsImm (_v : Byte) (s : State) : Outcome := s.refuse 0xCB 2

/-- SHA (zp),Y, `$93` (R408). -/
def execShaIndy (_z : Byte) (s : State) : Outcome := s.refuse 0x93 2

/-- SHA abs,Y, `$9F` (R408). -/
def execShaAbsy (_w : Word) (s : State) : Outcome := s.refuse 0x9F 3

/-- TAS abs,Y, `$9B` (R409). -/
def execTasAbsy (_w : Word) (s : State) : Outcome := s.refuse 0x9B 3

/-- SHY abs,X, `$9C` (R410). -/
def execShyAbsx (_w : Word) (s : State) : Outcome := s.refuse 0x9C 3

/-- SHX abs,Y, `$9E` (R411). -/
def execShxAbsy (_w : Word) (s : State) : Outcome := s.refuse 0x9E 3

/-- LAS abs,Y, `$BB` (R412). -/
def execLasAbsy (_w : Word) (s : State) : Outcome := s.refuse 0xBB 3

end Sys2Proof.Machine
end

