-- ==== Sys2Proof/Machine/HostCalls.lean ====
section
/-! DEFINITION. The calls of the environment that are no memory access: `irq()`, `nmi()`, `reset()`, new trap addresses, and
metered calls that run no instruction (60_exceptions.md R422 to R428, R442, 70_reset_and_hazards.md R470, R476). -/

namespace Sys2Proof.Machine

/-- `irq()`: a no-op while I is set, else the entry through $FFFE with B = 0 in the pushed P (60_exceptions.md R423, R427). -/
def State.irq (s : State) : State :=
  if s.flag .i then s else s.enterHandler s.pc s.pushedByInterrupt irqVector

/-- `nmi()`: the same entry through $FFFA, whatever I is (60_exceptions.md R424). -/
def State.nmi (s : State) : State := s.enterHandler s.pc s.pushedByInterrupt nmiVector

/-- `reset()`: SP, PC from the vector and `debt`; A, X, Y, P (with bit 5 forced) and the latches are fresh draws; memory and the
trap table stay (70_reset_and_hazards.md R470, 10_state.md R51). -/
def State.hostReset (s : State) : State :=
  let q := Config.resetDraw s.draws
  let (t, s) := s.read16 resetVector
  { s with
    a := q.a, x := q.x, y := q.y, sp := 0xFD, p := q.p ||| constantBit, pc := t,
    opcode := q.opcode, ea := q.ea, ra := q.ra, debt := 0, draws := s.draws + 1 }

/-- A sorted table with one more address, unless it stands there already (60_exceptions.md R442). -/
def insertTrap (t : Word) : List Word → List Word
  | [] => [t]
  | u :: r => if t.toNat < u.toNat then t :: u :: r else if t = u then u :: r else u :: insertTrap t r

/-- `setpatch`: a 33rd entry is silently ignored (60_exceptions.md R442). -/
def addTrap (t : Word) (traps : List Word) : List Word :=
  if traps.length < trapCapacity then insertTrap t traps else traps

/-- `setpatch(t, ...)` as the block sees it. -/
def State.setpatch (t : Word) (s : State) : State :=
  { s with params := { s.params with traps := addTrap t s.params.traps } }

/-- A metered `clock()` call that runs no instruction: only `debt` changes, to any value (70_reset_and_hazards.md R476,
93_implementation_defined.md item 4). -/
def State.tick (s : State) : State :=
  { s with debt := (Config.boundaryDraw s.draws).debt, draws := s.draws + 1 }

end Sys2Proof.Machine
end

