-- ==== Sys2Proof/Machine/Cycle.lean ====
section
/-! DEFINITION. The instruction cycle: fetch, decode and execute, and the boundary after it (40_addressing.md R140), with the
step of whichever agent moves next (00_scope.md R7). -/

namespace Sys2Proof.Machine

/-- The byte at PC, with PC advanced by one mod 2^16 (40_addressing.md R140, 10_state.md R35). -/
def State.fetchByte (s : State) : Byte × State :=
  let (b, s) := s.memRead s.pc
  (b, s.setPc (s.pc + 1))

/-- The opcode byte into its latch, then as many operand bytes as its mode has, low byte first: the instruction, and the state
with PC past it (40_addressing.md R140, R155). -/
def State.fetch (s : State) : Instr × State :=
  let (op, s) := s.fetchByte
  let s := s.setOpcode op
  match operandCount op with
  | 0 => (instrOf op 0 0, s)
  | 1 =>
    let (b1, s) := s.fetchByte
    (instrOf op b1 0, s)
  | _ =>
    let (b1, s) := s.fetchByte
    let (b2, s) := s.fetchByte
    (instrOf op b1 b2, s)

/-- The boundary after an instruction: the latches and `debt` hold any value there (10_state.md R47, R48,
93_implementation_defined.md items 3 and 4). -/
def State.settle (s : State) : State :=
  let q := Config.boundaryDraw s.draws
  { s with opcode := q.opcode, ea := q.ea, ra := q.ra, debt := q.debt, draws := s.draws + 1 }

/-- `settle` under an outcome. -/
def settled : Outcome → Outcome
  | .next s => .next s.settle
  | .fault r => .fault r
  | .refused r => .refused r

/-- `Step()`: one instruction (40_addressing.md R140). -/
def coreStep (s : State) : Outcome := settled (exec s.fetch.1 s.fetch.2)

/-- One call of the environment, between core steps or inside a trap callback: an ordinary step either way (60_exceptions.md
R432). `clock()` and `fastclock()` execute an instruction identically (70_reset_and_hazards.md R475). -/
def hostStep (c : HostCall) (s : State) : Outcome :=
  match c with
  | .fastclock => coreStep s
  | .clock true => coreStep s
  | .clock false => .next s.tick
  | .irq => .next s.irq
  | .nmi => .next s.nmi
  | .reset => .next s.hostReset
  | .peek a => .next (s.hostRead a)
  | .poke a v => .next (s.hostWrite a v)
  | .setpatch t => .next (s.setpatch t)

/-- One call or register write inside a trap callback (60_exceptions.md R432, R440). -/
def callbackStep (c : CallbackCall) (s : State) : Outcome :=
  match c with
  | .call c => hostStep c s
  | .write w => .next (s.hostRegister w)

/-- The agent that moves next: the innermost open callback, by its next call or else by its return; with none open, the
environment while its schedule holds a call, else the core (00_scope.md R7, 60_exceptions.md R422, R432, R440). A register
write and a return stand in open callbacks only, so the environment redirects control through the hook only (R434). -/
def agentStep (s : State) : Outcome :=
  match s.openCallbacks with
  | o :: os =>
    match o.calls with
    | c :: cs => callbackStep c { s with openCallbacks := { o with calls := cs } :: os }
    | [] => .next (State.trapReturn o { s with openCallbacks := os }).settle
  | [] =>
    match s.inputs with
    | c :: rest => hostStep c { s with inputs := rest }
    | [] => coreStep s

/-- Memory with bytes stored from an address upward, mod 2^16. -/
def Memory.store (a : Word) : List Byte → Memory → Memory
  | [], m => m
  | b :: r, m => Memory.store (a + 1) r (m.write a b)

/-- The state with the bytes of an instruction, given as a table word, in plain RAM at PC, and nothing of the environment's before it. -/
def State.placeTableWord (s : State) (nbits w : Nat) : State :=
  { s with
    mem := Memory.store s.pc (tableBytes nbits w) s.mem
    params := { s.params with
      memEnv := s.params.memEnv.filter fun r => !(inRegion r s.pc || inRegion r (s.pc + 1) || inRegion r (s.pc + 2)) }
    inputs := []
    openCallbacks := [] }

end Sys2Proof.Machine
end

