-- ==== Sys2Proof/Machine/Step.lean ====
section
/-! DEFINITION. The machine's step, and how the host places the instruction it runs next. -/

namespace Sys2Proof.Machine

/-- One step: one move of an open callback if there is one, else one call of the environment if its schedule holds one, else one
instruction (40_addressing.md R140, 60_exceptions.md R422, R440). -/
def step (s : State) : Host.Outcome State Fault Refusal := agentStep s

/-- The state with an instruction, given as a table word, stored at PC, and nothing of the environment's before it. A program comes to run
by being loaded into memory from outside (log 4). -/
def State.withFetchWord (s : State) (nbits w : Nat) : State := s.placeTableWord nbits w

end Sys2Proof.Machine
end

