-- ==== Sys2Proof/Safety.lean ====
section
/-! DEFINITION. The words that claims are stated in: the machine's invariant, coherence of memory with the access history,
reads in sequence, frames, the accesses of an instruction, and the forms of an instruction rule. -/

namespace Sys2Proof.Machine

/-! ## Invariants -/

/-- What every reachable state satisfies: the constant bit of P is 1 (10_state.md R42), memory is in canonical form, the trap
table is one the host can have (60_exceptions.md R442), and each callback that is open is one at a trap address (R440). -/
abbrev State.Inv (s : State) : Prop :=
  s.p.getLsbD 5 = true ∧ Memory.wf s.mem = true ∧ s.params.wf = true ∧ ∀ o ∈ s.openCallbacks, o.target ∈ s.params.traps

/-- The value of the latest write to `a`, by the core or by the host. -/
def lastWrite (a : Word) : List Event → Option Byte
  | [] => none
  | .write b v :: r => if b = a then some v else lastWrite a r
  | .hostWrite b v :: r => if b = a then some v else lastWrite a r
  | .read _ _ :: r => lastWrite a r
  | .hostRead _ _ :: r => lastWrite a r
  | .hook _ :: r => lastWrite a r

/-- Every read of a history at an address that `owned` does not name gave the value of the latest write before it to the
same address (20_memory.md R80). -/
def readsAgree (owned : Word → Bool) : List Event → Prop
  | [] => True
  | .read a v :: r => (owned a = false → ∀ w, lastWrite a r = some w → v = w) ∧ readsAgree owned r
  | .hostRead a v :: r => (owned a = false → ∀ w, lastWrite a r = some w → v = w) ∧ readsAgree owned r
  | .write _ _ :: r => readsAgree owned r
  | .hostWrite _ _ :: r => readsAgree owned r
  | .hook _ :: r => readsAgree owned r

/-- Over the addresses that are plain RAM (all of them under the default `MEM_ENV`) the history is sequentially consistent, and
memory holds the value of the latest write to every address that has one (20_memory.md R80). -/
def State.Coherent (s : State) : Prop :=
  Memory.wf s.mem = true ∧ readsAgree (fun a => s.envOwns a) s.history ∧
  ∀ a v, s.envOwns a = false → lastWrite a s.history = some v → s.mem.read a = v

/-! ## Reads in sequence, under any `MEM_ENV` -/

/-- The values that reads of some addresses give, first to last. -/
def State.readValues : List Word → State → List Byte
  | [], _ => []
  | a :: r, s => s.peekValue a :: State.readValues r (s.afterRead a)

/-- The same reads as events, newest first. -/
def State.readEvents : List Word → State → List Event
  | [], _ => []
  | a :: r, s => State.readEvents r (s.afterRead a) ++ [.read a (s.peekValue a)]

/-- The state after those reads. -/
def State.afterReads : List Word → State → State
  | [], s => s
  | a :: r, s => State.afterReads r (s.afterRead a)

/-- How many reads among some events the environment answers. -/
def State.ownedReads (es : List Event) (s : State) : Nat :=
  es.countP fun e => match e with
    | .read a _ | .hostRead a _ => s.envOwns a
    | .write _ _ | .hostWrite _ _ | .hook _ => false

/-- The environment's answers that are left after some events. -/
def State.answersAfter (es : List Event) (s : State) : List Byte := s.answers.drop (s.ownedReads es)

/-- The counter of free values after some events: one more for each answer that was not scripted. -/
def State.drawsAfter (es : List Event) (s : State) : Nat := s.draws + (s.ownedReads es - s.answers.length)

/-- The environment's answers are used by the reads that the history gained, and by nothing else. -/
def AnswersUsed (s t : State) : Prop :=
  ∃ es, t.history = es ++ s.history ∧ t.answers = s.answersAfter es ∧ t.draws = s.drawsAfter es

/-! ## Frames -/

/-- The 8-bit registers that instructions name. -/
inductive Reg where
  | a | x | y | sp
deriving DecidableEq, Repr

/-- The value of a register. -/
def State.reg (s : State) : Reg → Byte
  | .a => s.a
  | .x => s.x
  | .y => s.y
  | .sp => s.sp

/-- Nothing but the listed registers and flags, PC, the latches, memory and the history differs, and the environment's answers
are used by the reads that the history gained and by nothing else. A write of any flag leaves the constant bit 1; with no flag
listed, P is the same byte. -/
def Frame (regs : List Reg) (flags : List Flag) (s t : State) : Prop :=
  (∀ r, r ∉ regs → t.reg r = s.reg r) ∧
  (∀ f, f ∉ flags → t.flag f = s.flag f) ∧
  (if flags = [] then t.p = s.p else t.p.getLsbD 5 = true) ∧
  t.debt = s.debt ∧ t.params = s.params ∧ t.inputs = s.inputs ∧ t.openCallbacks = s.openCallbacks ∧
  t.callbacks = s.callbacks ∧ AnswersUsed s t

/-- Every byte of memory reads as before. -/
def NoStore (s t : State) : Prop := ∀ a, t.mem.read a = s.mem.read a

/-- The byte at `ea`, if `ea` is plain RAM, is `v`, and every other byte of memory reads as before. -/
def StoresAt (ea : Word) (v : Byte) (s t : State) : Prop :=
  (s.envOwns ea = false → t.mem.read ea = v) ∧ ∀ a, a ≠ ea → t.mem.read a = s.mem.read a

/-- The pointer reads of a mode as events, newest first (40_addressing.md R150 to R152). -/
def State.pointerEvents (o : Operand) (s : State) : List Event :=
  match s.pointerReads o with
  | some (aLo, aHi) => s.readEvents [aLo, aHi]
  | none => []

/-- The reads of an instruction that loads its operand, after the fetch, newest first: the pointer, then one read of the
effective address. A, an immediate byte (which the fetch has read) and an implied operand take none (40_addressing.md R154). -/
def State.operandReads (o : Operand) (s : State) : List Event :=
  match o with
  | .imp | .acc | .imm _ => []
  | .zp _ | .zpx _ | .zpy _ | .rel _ | .indx _ | .indy _ | .abs _ | .absx _ | .absy _ | .ind _ =>
    .read (s.effective o) (s.operandValue o) :: s.pointerEvents o

/-- Resolve apart from the latches: the pointer's reads the only accesses, and nothing else different. -/
def Resolved (o : Operand) (s t : State) : Prop :=
  t.pc = s.pc ∧ Frame [] [] s t ∧ NoStore s t ∧ t.history = s.pointerEvents o ++ s.history

/-- The frame of a form that loads its operand and stores nothing: PC, memory and all but the listed registers and flags as
before, and the operand's reads the only accesses. -/
def Quiet (regs : List Reg) (flags : List Flag) (o : Operand) (s t : State) : Prop :=
  t.pc = s.pc ∧ Frame regs flags s t ∧ NoStore s t ∧ t.history = s.operandReads o ++ s.history

/-- The frame of a form that stores the byte `v` at its effective address without reading there first: that store and the
pointer's reads the only accesses. -/
def Storing (regs : List Reg) (flags : List Flag) (o : Operand) (v : Byte) (s t : State) : Prop :=
  t.pc = s.pc ∧ Frame regs flags s t ∧ StoresAt (s.effective o) v s t ∧
  t.history = .write (s.effective o) v :: s.pointerEvents o ++ s.history

/-- The frame of a read-modify-write form: one read, then one write of the result, at the same address. -/
def Modifying (regs : List Reg) (flags : List Flag) (o : Operand) (v : Byte) (s t : State) : Prop :=
  t.pc = s.pc ∧ Frame regs flags s t ∧ StoresAt (s.effective o) v s t ∧
  t.history = .write (s.effective o) v :: s.operandReads o ++ s.history

/-- Every flag, for a form that loads all of P. -/
def allFlags : List Flag := [.c, .z, .i, .d, .b, .v, .n]

/-- `SetZN(r)`, as the flags it leaves (41_alu.md R170). -/
def ZNof (r : Byte) (t : State) : Prop :=
  (t.flag .z = true ↔ r.toNat = 0) ∧ (t.flag .n = true ↔ 128 ≤ r.toNat)

/-! ## Sums and differences -/

/-- 41_alu.md R171: the sum mod 256, C where it exceeds $FF, V where operands of like sign give a result of the other
sign. -/
def BinarySum (a m : Byte) (c : Bool) (r : Byte) (c' v' : Bool) : Prop :=
  r.toNat = (a.toNat + m.toNat + c.toNat) % 256 ∧
  (c' = true ↔ 255 < a.toNat + m.toNat + c.toNat) ∧
  (v' = true ↔ a.getLsbD 7 = m.getLsbD 7 ∧ r.getLsbD 7 ≠ a.getLsbD 7)

/-- 41_alu.md R172: `a - m - (1 - c)` mod 256, C where it is not negative, V where operands of unlike sign give a result whose
sign differs from `a`'s. -/
def BinaryDifference (a m : Byte) (c : Bool) (r : Byte) (c' v' : Bool) : Prop :=
  (r.toNat : Int) = ((a.toNat : Int) - m.toNat - (1 - c.toNat)) % 256 ∧
  (c' = true ↔ 0 ≤ (a.toNat : Int) - m.toNat - (1 - c.toNat)) ∧
  (v' = true ↔ a.getLsbD 7 ≠ m.getLsbD 7 ∧ r.getLsbD 7 ≠ a.getLsbD 7)

/-- 41_alu.md R173, by nibbles: +6 on a nibble whose sum exceeds 9, the carry rippling, C and V from the corrected result. -/
def DecimalSum (a m : Byte) (c : Bool) (r : Byte) (c' v' : Bool) : Prop :=
  ∃ lo hi : Nat,
    lo = a.toNat % 16 + m.toNat % 16 + c.toNat ∧
    hi = a.toNat / 16 + m.toNat / 16 + (if 9 < lo then 1 else 0) ∧
    r.toNat % 16 = (if 9 < lo then lo + 6 else lo) % 16 ∧
    r.toNat / 16 = (if 9 < hi then hi + 6 else hi) % 16 ∧
    (c' = true ↔ 9 < hi) ∧
    (v' = true ↔ a.getLsbD 7 = m.getLsbD 7 ∧ r.getLsbD 7 ≠ a.getLsbD 7)

/-- 41_alu.md R174, by nibbles: -6 on a nibble below zero, C where the high digit needs no borrow, V from the corrected
result. -/
def DecimalDifference (a m : Byte) (c : Bool) (r : Byte) (c' v' : Bool) : Prop :=
  ∃ lo hi : Int,
    lo = (a.toNat % 16 : Nat) - (m.toNat % 16 : Nat) - (1 - c.toNat) ∧
    hi = (a.toNat / 16 : Nat) - (m.toNat / 16 : Nat) - (if lo < 0 then 1 else 0) ∧
    ((r.toNat % 16 : Nat) : Int) = (if lo < 0 then lo - 6 else lo) % 16 ∧
    ((r.toNat / 16 : Nat) : Int) = (if hi < 0 then hi - 6 else hi) % 16 ∧
    (c' = true ↔ 0 ≤ hi) ∧
    (v' = true ↔ a.getLsbD 7 ≠ m.getLsbD 7 ∧ r.getLsbD 7 ≠ a.getLsbD 7)

/-- Both nibbles are decimal digits. -/
def Digits (b : Byte) : Prop := b.toNat % 16 ≤ 9 ∧ b.toNat / 16 ≤ 9

/-- A decimal operation on A and `m` has a value that the spec leaves open (41_alu.md R186). -/
def State.OpenDecimal (s : State) (m : Byte) : Prop := s.params.decNonBcd = .draw ∧ ¬(Digits s.a ∧ Digits m)

/-- The effect of `ADC_op(m)` from a state with carry `c`: A, C, V, Z and N, binary or decimal (41_alu.md R175, R186). `s` is
the state before, `t` after, and `k` the counter of free values when the operation starts. -/
def AdcEffect (m : Byte) (c : Bool) (k : Nat) (s t : State) : Prop :=
  (s.flag .d = false → BinarySum s.a m c t.a (t.flag .c) (t.flag .v) ∧ ZNof t.a t ∧ t.draws = k) ∧
  (s.flag .d = true → ¬s.OpenDecimal m →
    DecimalSum s.a m c t.a (t.flag .c) (t.flag .v) ∧ ZNof t.a t ∧ t.draws = k) ∧
  (s.flag .d = true → s.OpenDecimal m →
    t.a = (Config.decimalDraw k).r ∧ t.flag .c = (Config.decimalDraw k).c ∧ t.flag .z = (Config.decimalDraw k).z ∧
    t.flag .v = (Config.decimalDraw k).v ∧ t.flag .n = (Config.decimalDraw k).n ∧ t.draws = k + 1)

/-- The effect of `SBC_op(m)` from a state with carry `c`: A, C, V, Z and N, binary or decimal (41_alu.md R176, R186). `s` is
the state before, `t` after, and `k` the counter of free values when the operation starts. -/
def SbcEffect (m : Byte) (c : Bool) (k : Nat) (s t : State) : Prop :=
  (s.flag .d = false → BinaryDifference s.a m c t.a (t.flag .c) (t.flag .v) ∧ ZNof t.a t ∧ t.draws = k) ∧
  (s.flag .d = true → ¬s.OpenDecimal m →
    DecimalDifference s.a m c t.a (t.flag .c) (t.flag .v) ∧ ZNof t.a t ∧ t.draws = k) ∧
  (s.flag .d = true → s.OpenDecimal m →
    t.a = (Config.decimalDraw k).r ∧ t.flag .c = (Config.decimalDraw k).c ∧ t.flag .z = (Config.decimalDraw k).z ∧
    t.flag .v = (Config.decimalDraw k).v ∧ t.flag .n = (Config.decimalDraw k).n ∧ t.draws = k + 1)

/-- The frame of an addition or subtraction: A and C, Z, V, N may differ, memory, and the draw counter. -/
def ArithFrame (s t : State) : Prop :=
  t.pc = s.pc ∧ t.x = s.x ∧ t.y = s.y ∧ t.sp = s.sp ∧ (∀ f, f ∉ [Flag.c, .z, .v, .n] → t.flag f = s.flag f) ∧
  t.p.getLsbD 5 = true ∧ t.debt = s.debt ∧ t.params = s.params ∧ t.inputs = s.inputs ∧
  t.openCallbacks = s.openCallbacks ∧ t.callbacks = s.callbacks ∧
  ∃ es, t.history = es ++ s.history ∧ t.answers = s.answersAfter es

/-! ## Accesses -/

/-- The `n` addresses from PC upward, mod 2^16 (40_addressing.md R155). -/
def State.fetchAddresses (n : Nat) (s : State) : List Word := (List.range n).map fun k => s.pc + BitVec.ofNat 16 k

/-- The `n` bytes from PC upward, as the fetch reads them. -/
def State.bytesAtPc (n : Nat) (s : State) : List Byte := s.readValues (s.fetchAddresses n)

/-- The state after the fetch of an instruction of `n` bytes: its reads done, PC past it, the opcode byte in its latch
(40_addressing.md R140). -/
def State.afterFetch (s : State) (n : Nat) : State :=
  { s.afterReads (s.fetchAddresses n) with
    pc := s.pc + BitVec.ofNat 16 n
    opcode := s.peekValue s.pc }

/-- The trap hook calls of a history. -/
def hookCalls (h : List Event) : List Word :=
  h.filterMap fun e => match e with
    | .hook t => some t
    | .read _ _ | .write _ _ | .hostRead _ _ | .hostWrite _ _ => none

/-! ## The stack and the handlers -/

/-- `Push16(w)`: the high byte at `$0100 | SP`, the low byte below it, SP two less, and no other byte touched (00_scope.md
R14). The stack bytes are claimed where they are plain RAM. -/
def Pushed16 (w : Word) (s t : State) : Prop :=
  t.pc = s.pc ∧ t.sp = s.sp - 2 ∧
  (s.envOwns (stackAddr s.sp) = false → t.mem.read (stackAddr s.sp) = hi8 w) ∧
  (s.envOwns (stackAddr (s.sp - 1)) = false → t.mem.read (stackAddr (s.sp - 1)) = lo8 w) ∧
  (∀ a, a ≠ stackAddr s.sp → a ≠ stackAddr (s.sp - 1) → t.mem.read a = s.mem.read a) ∧
  t.history = [.write (stackAddr (s.sp - 1)) (lo8 w), .write (stackAddr s.sp) (hi8 w)] ++ s.history ∧
  Frame [.sp] [] s t

/-- The entry into a handler: the return address and a byte for P on the stack, I set, PC from the vector at `vec`, and nothing
else but the history and the latches different (60_exceptions.md R423 to R426, 46_stack_flags_system.md R360). The stack bytes
are claimed where they are plain RAM. -/
def HandlerEntered (ret : Word) (pushed : Byte) (vec : Word) (s t : State) : Prop :=
  let lo := s.peekValue vec
  let hi := (s.afterRead vec).peekValue (vec + 1)
  t.sp = s.sp - 3 ∧
  (s.envOwns (stackAddr s.sp) = false → t.mem.read (stackAddr s.sp) = hi8 ret) ∧
  (s.envOwns (stackAddr (s.sp - 1)) = false → t.mem.read (stackAddr (s.sp - 1)) = lo8 ret) ∧
  (s.envOwns (stackAddr (s.sp - 2)) = false → t.mem.read (stackAddr (s.sp - 2)) = pushed) ∧
  (∀ a, a ≠ stackAddr s.sp → a ≠ stackAddr (s.sp - 1) → a ≠ stackAddr (s.sp - 2) → t.mem.read a = s.mem.read a) ∧
  t.pc = word hi lo ∧ t.flag .i = true ∧ Frame [.sp] [.i] s t ∧
  t.history =
    [.read (vec + 1) hi, .read vec lo, .write (stackAddr (s.sp - 2)) pushed,
      .write (stackAddr (s.sp - 1)) (lo8 ret), .write (stackAddr s.sp) (hi8 ret)] ++ s.history

/-! ## The environment's turn -/

/-- Nothing of the environment's is due: no callback is open and the schedule is empty. -/
abbrev State.Idle (s : State) : Prop := s.openCallbacks = [] ∧ s.inputs = []

/-- The environment's call `c` is due in `s`, and `u` is `s` with that call used up: the innermost open callback makes it, or,
with none open, the schedule holds it (60_exceptions.md R422, R432). -/
def Due (c : HostCall) (s u : State) : Prop :=
  (∃ o cs os, s.openCallbacks = o :: os ∧ o.calls = .call c :: cs ∧
    u = { s with openCallbacks := { o with calls := cs } :: os }) ∨
  (s.openCallbacks = [] ∧ ∃ rest, s.inputs = c :: rest ∧ u = { s with inputs := rest })

/-! ## The trap hook -/

/-- `t` is `s` with the hook open for the target `w`: the call recorded, the next callback open in front of those that were, with
all its calls still to make, that callback used up, and nothing else different (60_exceptions.md R432, R440). -/
def HookOpened (w : Word) (push : Option Word) (s t : State) : Prop :=
  t = { s with
    history := .hook w :: s.history
    openCallbacks :=
      { target := w, push := push, calls := s.nextTrap.calls, outcome := s.nextTrap.outcome } :: s.openCallbacks
    callbacks := s.callbacks.tail
    draws := if s.callbacks = [] then s.draws + 1 else s.draws }

/-- `t` is `s` but for the latches and `debt`, which hold free values at a boundary, and the counter of free values (10_state.md
R47, R48; log 3). -/
def AtBoundary (s t : State) : Prop :=
  t = { s with
    opcode := (Config.boundaryDraw s.draws).opcode
    ea := (Config.boundaryDraw s.draws).ea
    ra := (Config.boundaryDraw s.draws).ra
    debt := (Config.boundaryDraw s.draws).debt
    draws := s.draws + 1 }

/-! ## The forms of an instruction rule -/

/-- `P` holds of every instruction of the listed opcode bytes, and each has the mode listed with its byte. A rule's
"Operands" and "Encoding" lines are such a list. -/
def OnForms (forms : List (Byte × Mode)) (P : Instr → Prop) : Prop :=
  ∀ f, f ∈ forms → ∀ i : Instr, i.opcode = f.1 → i.operand.mode = f.2 ∧ P i

/-- The T4 bytes (30_encoding.md R106). -/
def bytesT4 : List Byte :=
  [0x02, 0x12, 0x22, 0x32, 0x42, 0x52, 0x62, 0x72, 0x92, 0xB2, 0xD2, 0xF2, 0x0B, 0x2B, 0x4B, 0x6B, 0x8B, 0xAB, 0xCB] ++
  [0x93, 0x9F, 0x9B, 0x9C, 0x9E, 0xBB]

/-- The T3 bytes (30_encoding.md R106). -/
def bytesT3 : List Byte :=
  [0x1A, 0x3A, 0x5A, 0x7A, 0xDA, 0xFA, 0x80, 0x82, 0x89, 0xC2, 0xE2, 0x04, 0x44, 0x64, 0x14, 0x34, 0x54, 0x74, 0xD4, 0xF4] ++
  [0x0C, 0x1C, 0x3C, 0x5C, 0x7C, 0xDC, 0xFC, 0xEB]

/-- The T2 bytes (30_encoding.md R106). -/
def bytesT2 : List Byte :=
  [0x03, 0x07, 0x0F, 0x13, 0x17, 0x1B, 0x1F, 0x23, 0x27, 0x2F, 0x33, 0x37, 0x3B, 0x3F] ++
  [0x43, 0x47, 0x4F, 0x53, 0x57, 0x5B, 0x5F, 0x63, 0x67, 0x6F, 0x73, 0x77, 0x7B, 0x7F] ++
  [0x83, 0x87, 0x8F, 0x97, 0xA3, 0xA7, 0xAF, 0xB3, 0xB7, 0xBF, 0xC3, 0xC7, 0xCF, 0xD3, 0xD7, 0xDB, 0xDF] ++
  [0xE3, 0xE7, 0xEF, 0xF3, 0xF7, 0xFB, 0xFF]

/-- Whether the core's step refuses the byte at PC (40_addressing.md R140). -/
def State.atRefusedByte (s : State) : Prop :=
  s.peekValue s.pc ∈ bytesT4 ∨ (s.peekValue s.pc ∈ bytesT3 ∧ s.params.admitT3 = false)

/-- The value of a byte read as two decimal digits. -/
def decimalValue (b : Byte) : Nat := b.toNat / 16 * 10 + b.toNat % 16

end Sys2Proof.Machine
end

