-- ==== Sys2Proof/Certificates/Slice0/Obligations.lean ====
section
/-! DEFINITION. The statements for the provers. Each is a proposition about the model; its docstring says what it states and
which rule of the spec it rests on. A list of pairs (opcode byte, mode) is copied from a rule's "Encoding" line. -/

section

open Sys2Proof Sys2Proof.Machine

/-- The state after reset has SP = $FD, debt = 0, bit 5 of P set, PC as the vector at $FFFC/$FFFD of its memory gives it,
and those two reads as its whole access history. That its memory lists nothing is the model's choice (log 1). A, X, Y, the
other bits of P and the latches are not claimed: the spec leaves them open (logs 2 and 3). -/
def Obligations.ResetStateHoldsSpecValues : Prop :=
  State.reset.sp = 0xFD ∧ State.reset.debt = 0 ∧ State.reset.p.getLsbD 5 = true ∧
  State.reset.pc = word (State.reset.mem.read 0xFFFD) (State.reset.mem.read 0xFFFC) ∧
  State.reset.history =
    [.read 0xFFFD (State.reset.mem.read 0xFFFD), .read 0xFFFC (State.reset.mem.read 0xFFFC)]

/-- A step on a reset() call, between instructions or inside a trap callback, in any state and under any MEM_ENV, answers a
next state: SP = $FD, PC from the reads of $FFFC (low) and $FFFD (high), debt = 0, A, X, Y, P and the latches fresh draws
with bit 5 of P forced to 1; the two vector reads, in that order, are the only accesses; memory, the parameters and the rest
of the environment's data but the call used up stay. -/
def Obligations.ResetCallLoadsVector : Prop :=
  ∀ s u : State, Due .reset s u →
    let lo := s.peekValue 0xFFFC
    let hi := (s.afterRead 0xFFFC).peekValue 0xFFFD
    let reads : List Event := [.read 0xFFFD hi, .read 0xFFFC lo]
    ∃ t, step s = .next t ∧
      t.sp = 0xFD ∧ t.pc = word hi lo ∧ t.debt = 0 ∧
      t.a = (Config.resetDraw s.draws).a ∧ t.x = (Config.resetDraw s.draws).x ∧
      t.y = (Config.resetDraw s.draws).y ∧ t.p = (Config.resetDraw s.draws).p ||| 0x20 ∧
      t.opcode = (Config.resetDraw s.draws).opcode ∧ t.ea = (Config.resetDraw s.draws).ea ∧
      t.ra = (Config.resetDraw s.draws).ra ∧ t.history = reads ++ s.history ∧
      t.answers = s.answersAfter reads ∧ t.draws = s.drawsAfter reads + 1 ∧
      t.mem = s.mem ∧ t.params = s.params ∧ t.inputs = u.inputs ∧ t.openCallbacks = u.openCallbacks ∧
      t.callbacks = s.callbacks

/-- State.Inv holds right after reset: bit 5 of P is 1, memory is in canonical form, the trap table is sorted with at most
32 addresses, and no callback is open at an address outside it. -/
def Obligations.ResetMeetsInvariant : Prop :=
  State.reset.Inv

/-- From every state with bit 5 of P = 1, memory in canonical form, a strictly sorted trap table of at most 32 addresses,
and every open callback at an address of that table, a step (an instruction, an interrupt, a reset, any host call or write,
inside a trap callback or not, or a callback's return), under any MEM_ENV, that answers a next state answers one with the
same four properties. That a callback stands open while its calls run is the model's choice (log 8). -/
def Obligations.StepKeepsInvariant : Prop :=
  ∀ s t : State, s.Inv → step s = .next t → t.Inv

/-- Right after reset, whose MEM_ENV is plain RAM, every read in the access history gave the value of the latest earlier
write to its address, memory holds the latest write to every address, and memory is canonical. -/
def Obligations.ResetIsCoherent : Prop :=
  State.reset.Coherent

/-- From every coherent state a step that answers a next state answers a coherent one: each read, opcode and operand fetches
and host accesses included, gave the value of the latest preceding write to the same address in the one order of accesses,
and memory holds the latest write of every address. It is said of the addresses that are plain RAM: all of them under the
default MEM_ENV. -/
def Obligations.StepKeepsCoherence : Prop :=
  ∀ s t : State, s.Coherent → step s = .next t → t.Coherent

/-- With nothing due from the environment, a step whose opcode fetch reads a T4 byte, or a T3 byte while ADMIT_T3 is false,
refuses UnmodelledOpcode with that byte and its address (R400); at every other byte, in every state and under any MEM_ENV,
it answers a next state: a core step never faults and never waits (R140). -/
def Obligations.StepEndsOnlyAtRefusedBytes : Prop :=
  ∀ s : State, s.Idle →
    (s.atRefusedByte → step s = .refused (.unmodelledOpcode (s.peekValue s.pc) s.pc)) ∧
    (¬s.atRefusedByte → ∃ t, step s = .next t)

/-- Two states that differ at most in the three latches (opcode byte, ea, ra) and in the cycle-budget counter have the same
step, whatever byte stands at PC and with nothing due from the environment. What the latches and debt hold after the step is
free (log 3). -/
def Obligations.LatchesAreUnobservable : Prop :=
  ∀ (s : State) (opcode ra : Byte) (ea : Word) (debt : Int), s.Idle →
    step { s with opcode := opcode, ea := ea, ra := ra, debt := debt } = step s

/-- For every instruction, with every operand value, the decoder reads the encoder's bytes, followed by any bytes, as that
instruction and leaves exactly the bytes that follow; the encoding has as many bytes as the instruction's length. -/
def Obligations.DecodeOfEncodeIsIdentity : Prop :=
  ∀ (i : Instr) (rest : List Byte),
    decode (encode i ++ rest) = .ok i rest ∧ (encode i).length = i.length

/-- For any opcode byte and any two bytes after it the decoder answers an instruction whose opcode is that byte and whose
encoding, followed by the rest, is the three bytes; its identity and its mode do not depend on the operand bytes. -/
def Obligations.EncodeOfDecodeIsIdentity : Prop :=
  ∀ op b1 b2 c1 c2 : Byte, ∃ i j rest rest',
    decode [op, b1, b2] = .ok i rest ∧ decode [op, c1, c2] = .ok j rest' ∧
    i.opcode = op ∧ encode i ++ rest = [op, b1, b2] ∧
    i.mnemonic = j.mnemonic ∧ i.operand.mode = j.operand.mode

/-- One word of each family, written out from the encoding tables: LDA #$05, STA $D020, ADC ($80,X), ASL A, BNE -6, JMP
($10FF), BRK, LDX $F0,Y, SLO $1234,X, the NOP $1C and JAM $02. -/
def Obligations.WordsDecodeAsTheSpecEncodesThem : Prop :=
  decode [0xA9, 0x05] = .ok (.ldaImm 0x05) [] ∧
  decode [0x8D, 0x20, 0xD0] = .ok (.staAbs 0xD020) [] ∧
  decode [0x61, 0x80] = .ok (.adcIndx 0x80) [] ∧
  decode [0x0A] = .ok .aslAcc [] ∧
  decode [0xD0, 0xFA] = .ok (.bneRel 0xFA) [] ∧
  decode [0x6C, 0xFF, 0x10] = .ok (.jmpInd 0x10FF) [] ∧
  decode [0x00] = .ok .brk [] ∧
  decode [0xB6, 0xF0] = .ok (.ldxZpy 0xF0) [] ∧
  decode [0x1F, 0x34, 0x12] = .ok (.sloAbsx 0x1234) [] ∧
  decode [0x1C, 0xF0, 0x12] = .ok (.nopAbsx1C 0x12F0) [] ∧
  decode [0x02] = .ok .jam02 []

/-- An instruction is of tier T2, T3 or T4 exactly if its opcode byte stands in that tier's list, and of tier T1 exactly if
its byte stands in none; the lists have 52, 28 and 25 bytes. -/
def Obligations.TiersFollowTheByteLists : Prop :=
  (∀ i : Instr,
    (i.tier = .t2 ↔ i.opcode ∈ bytesT2) ∧ (i.tier = .t3 ↔ i.opcode ∈ bytesT3) ∧
    (i.tier = .t4 ↔ i.opcode ∈ bytesT4) ∧
    (i.tier = .t1 ↔ i.opcode ∉ bytesT2 ++ bytesT3 ++ bytesT4)) ∧
  bytesT2.length = 52 ∧ bytesT3.length = 28 ∧ bytesT4.length = 25

/-- For every instruction of tier T1 or T2 the lookup of its mnemonic and mode gives its own opcode byte (NOP implied gives
$EA, SBC immediate $E9), and whatever byte a lookup gives is one of tier T1 or T2 with that mnemonic and mode. -/
def Obligations.ReverseLookupFindsTheTierOneByte : Prop :=
  (∀ i : Instr, i.tier = .t1 ∨ i.tier = .t2 → reverseLookup i.mnemonic i.operand.mode = some i.opcode) ∧
  (∀ m k op, reverseLookup m k = some op →
    ∀ i : Instr, i.opcode = op → i.mnemonic = m ∧ i.operand.mode = k ∧ (i.tier = .t1 ∨ i.tier = .t2)) ∧
  reverseLookup .nop .imp = some 0xEA ∧ reverseLookup .sbc .imm = some 0xE9

/-- With nothing due from the environment, when the bytes that the fetch reads from PC on decode to i, a step is exec of i
in the state after the fetch: PC past the instruction, the opcode byte latched, one read of each of its bytes recorded. That
an immediate operand byte is read by the fetch, and not by the execute phase, is the model's choice (log 12). Around exec
the step only gives the latches and debt free values at the boundary, the model's choice too (log 3); a refusal stays as it
is. -/
def Obligations.StepRunsTheDecodedInstruction : Prop :=
  ∀ (s : State) (i : Instr), s.Idle → decode (s.bytesAtPc i.length) = .ok i [] →
    (∀ t, exec i (s.afterFetch i.length) = .next t → ∃ u, step s = .next u ∧ AtBoundary t u) ∧
    (∀ r, exec i (s.afterFetch i.length) = .refused r → step s = .refused r)

/-- After the fetch and Resolve of the instruction at PC, for every state, opcode byte and MEM_ENV: PC is past the
instruction mod 2^16; the effective address is what the mode's rule computes from the operand bytes, X, Y and the pointer
bytes, with the zero-page, page and 16-bit wraps (for an immediate, the address of its byte; an implied or accumulator
operand has none, R141, R142, and the latch stays); the reads are those of the mode, in order. That an immediate operand's
one read is made by the fetch is the model's choice (log 12): R143 and R155 put it in the execute phase. R146 and R149 are
the modes zp,Y and abs,Y. -/
def Obligations.EveryModeResolves : Prop :=
  ∀ s : State,
    let i := s.fetch.1
    let u := s.fetch.2
    let t := u.resolve i.operand
    let b1 := (s.afterRead s.pc).peekValue (s.pc + 1)
    let b2 := ((s.afterRead s.pc).afterRead (s.pc + 1)).peekValue (s.pc + 2)
    let w := 256 * b2.toNat + b1.toNat
    let at16 := fun n : Nat => (BitVec.ofNat 16 n : Word)
    let pointer := fun lo hi : Nat =>
      256 * ((u.afterRead (at16 lo)).peekValue (at16 hi)).toNat + (u.peekValue (at16 lo)).toNat
    let reads := fun l : List Word => s.readEvents l ++ s.history
    t.pc.toNat = (s.pc.toNat + i.length) % 65536 ∧
    match i.operand.mode with
    | .imp | .acc => t.ea = s.ea ∧ t.history = reads [s.pc]
    | .imm => t.ea = s.pc + 1 ∧ u.operandValue i.operand = b1 ∧ t.history = reads [s.pc, s.pc + 1]
    | .zp => t.ea.toNat = b1.toNat ∧ t.history = reads [s.pc, s.pc + 1]
    | .zpx => t.ea.toNat = (b1.toNat + s.x.toNat) % 256 ∧ t.history = reads [s.pc, s.pc + 1]
    | .zpy => t.ea.toNat = (b1.toNat + s.y.toNat) % 256 ∧ t.history = reads [s.pc, s.pc + 1]
    | .rel =>
      (t.ea.toNat : Int) = (s.pc.toNat + 2 + b1.toInt) % 65536 ∧ t.ra = b1 ∧
      t.history = reads [s.pc, s.pc + 1]
    | .abs => t.ea.toNat = w ∧ t.history = reads [s.pc, s.pc + 1, s.pc + 2]
    | .absx => t.ea.toNat = (w + s.x.toNat) % 65536 ∧ t.history = reads [s.pc, s.pc + 1, s.pc + 2]
    | .absy => t.ea.toNat = (w + s.y.toNat) % 65536 ∧ t.history = reads [s.pc, s.pc + 1, s.pc + 2]
    | .indx =>
      let lo := (b1.toNat + s.x.toNat) % 256
      let hi := (b1.toNat + s.x.toNat + 1) % 256
      t.ea.toNat = pointer lo hi ∧ t.history = reads [s.pc, s.pc + 1, at16 lo, at16 hi]
    | .indy =>
      let lo := b1.toNat
      let hi := (b1.toNat + 1) % 256
      t.ea.toNat = (pointer lo hi + s.y.toNat) % 65536 ∧ t.history = reads [s.pc, s.pc + 1, at16 lo, at16 hi]
    | .ind =>
      let hi := w / 256 * 256 + (w + 1) % 256
      t.ea.toNat = pointer w hi ∧ t.history = reads [s.pc, s.pc + 1, s.pc + 2, at16 w, at16 hi]

/-- For STA, STX, STY and SAX in every mode: where the effective address is the address of the next instruction, and plain
RAM, the instruction completes and the fetch after it reads the stored byte as its opcode. -/
def Obligations.StoreIsSeenByTheNextFetch : Prop :=
  ∀ (i : Instr) (s : State), i.mnemonic ∈ [.sta, .stx, .sty, .sax] → Memory.wf s.mem = true →
    s.effective i.operand = s.pc → s.envOwns s.pc = false →
    ∃ t, exec i s = .next t ∧
      t.fetch.1.opcode =
        (if i.mnemonic = .sta then s.a else if i.mnemonic = .stx then s.x
          else if i.mnemonic = .sty then s.y else s.a &&& s.x)

/-- LDA, LDX, LDY and LAX, in each of their modes and from every state, answer a next state: A, X, Y, or both A and X, hold
the operand byte, Z and N describe it, and every other register and flag, memory and PC are as before; the operand's reads
are the only accesses. That an immediate byte is read by the fetch, so that exec makes no access for it, is the model's
choice (log 12). -/
def Obligations.LoadsWriteTheirRegister : Prop :=
  (OnForms [(0xA1, .indx), (0xA5, .zp), (0xA9, .imm), (0xAD, .abs), (0xB1, .indy), (0xB5, .zpx), (0xB9, .absy),
            (0xBD, .absx)] fun i => ∀ s : State,
    ∃ t, exec i s = .next t ∧ t.a = s.operandValue i.operand ∧ ZNof t.a t ∧
      Quiet [.a] [.z, .n] i.operand s t) ∧
  (OnForms [(0xA2, .imm), (0xA6, .zp), (0xAE, .abs), (0xB6, .zpy), (0xBE, .absy)] fun i => ∀ s : State,
    ∃ t, exec i s = .next t ∧ t.x = s.operandValue i.operand ∧ ZNof t.x t ∧
      Quiet [.x] [.z, .n] i.operand s t) ∧
  (OnForms [(0xA0, .imm), (0xA4, .zp), (0xAC, .abs), (0xB4, .zpx), (0xBC, .absx)] fun i => ∀ s : State,
    ∃ t, exec i s = .next t ∧ t.y = s.operandValue i.operand ∧ ZNof t.y t ∧
      Quiet [.y] [.z, .n] i.operand s t) ∧
  (OnForms [(0xA3, .indx), (0xA7, .zp), (0xAF, .abs), (0xB3, .indy), (0xB7, .zpy), (0xBF, .absy)] fun i => ∀ s : State,
    ∃ t, exec i s = .next t ∧ t.a = s.operandValue i.operand ∧ t.x = s.operandValue i.operand ∧
      ZNof t.a t ∧ Quiet [.a, .x] [.z, .n] i.operand s t)

/-- STA, STX, STY and SAX, in each of their modes and from every state with canonical memory, answer a next state in which
the byte at the effective address (if it is plain RAM) is A, X, Y or A AND X, every other byte and every register and flag
are as before, and that write (after the pointer's reads) is the only access: nothing is read at the effective address. -/
def Obligations.StoresWriteOneByte : Prop :=
  (OnForms [(0x81, .indx), (0x85, .zp), (0x8D, .abs), (0x91, .indy), (0x95, .zpx), (0x99, .absy), (0x9D, .absx)] fun i => ∀ s : State,
    Memory.wf s.mem = true → ∃ t, exec i s = .next t ∧ Storing [] [] i.operand s.a s t) ∧
  (OnForms [(0x86, .zp), (0x8E, .abs), (0x96, .zpy)] fun i => ∀ s : State,
    Memory.wf s.mem = true → ∃ t, exec i s = .next t ∧ Storing [] [] i.operand s.x s t) ∧
  (OnForms [(0x84, .zp), (0x8C, .abs), (0x94, .zpx)] fun i => ∀ s : State,
    Memory.wf s.mem = true → ∃ t, exec i s = .next t ∧ Storing [] [] i.operand s.y s t) ∧
  (OnForms [(0x83, .indx), (0x87, .zp), (0x8F, .abs), (0x97, .zpy)] fun i => ∀ s : State,
    Memory.wf s.mem = true → ∃ t, exec i s = .next t ∧ Storing [] [] i.operand (s.a &&& s.x) s t)

/-- Each transfer answers a next state in which the destination holds the source; Z and N describe it, but for TXS, which
leaves P as it was; everything else stays and no memory is accessed. -/
def Obligations.TransfersCopyARegister : Prop :=
  (OnForms [(0xAA, .imp)] fun i => ∀ s : State,
    ∃ t, exec i s = .next t ∧ t.x = s.a ∧ ZNof t.x t ∧ Quiet [.x] [.z, .n] .imp s t) ∧
  (OnForms [(0xA8, .imp)] fun i => ∀ s : State,
    ∃ t, exec i s = .next t ∧ t.y = s.a ∧ ZNof t.y t ∧ Quiet [.y] [.z, .n] .imp s t) ∧
  (OnForms [(0x8A, .imp)] fun i => ∀ s : State,
    ∃ t, exec i s = .next t ∧ t.a = s.x ∧ ZNof t.a t ∧ Quiet [.a] [.z, .n] .imp s t) ∧
  (OnForms [(0x98, .imp)] fun i => ∀ s : State,
    ∃ t, exec i s = .next t ∧ t.a = s.y ∧ ZNof t.a t ∧ Quiet [.a] [.z, .n] .imp s t) ∧
  (OnForms [(0xBA, .imp)] fun i => ∀ s : State,
    ∃ t, exec i s = .next t ∧ t.x = s.sp ∧ ZNof t.x t ∧ Quiet [.x] [.z, .n] .imp s t) ∧
  (OnForms [(0x9A, .imp)] fun i => ∀ s : State,
    ∃ t, exec i s = .next t ∧ t.sp = s.x ∧ Quiet [.sp] [] .imp s t)

/-- ADC, in each of its modes and from every state, answers a next state: with D = 0, A is the sum mod 256 with its carry,
signed overflow, zero and sign; with D = 1, A is the nibble-corrected sum and the flags come from the corrected result;
under DEC_NONBCD = Draw a non-BCD nibble gives free A, C, Z, V and N. X, Y, SP, PC, I, D, B, memory and the rest stay. That
an immediate byte is read by the fetch, so that exec makes no access for it, is the model's choice (log 12). -/
def Obligations.AdcAddsWithCarry : Prop :=
  (OnForms [(0x61, .indx), (0x65, .zp), (0x69, .imm), (0x6D, .abs), (0x71, .indy), (0x75, .zpx), (0x79, .absy),
            (0x7D, .absx)] fun i => ∀ s : State,
    ∃ t, exec i s = .next t ∧ AdcEffect (s.operandValue i.operand) (s.flag .c)
        (s.drawsAfter (s.operandReads i.operand)) s t ∧
      ArithFrame s t ∧ NoStore s t ∧ t.history = s.operandReads i.operand ++ s.history)

/-- SBC, in each of its modes and from every state, and its alias $EB where ADMIT_T3 is true, answer a next state: with D =
0, A is A - m - (1 - C) mod 256 with no-borrow carry, signed overflow, zero and sign; with D = 1, A is the nibble-corrected
difference and the flags come from it; under DEC_NONBCD = Draw a non-BCD nibble gives free values. Everything else stays.
With ADMIT_T3 false, $EB refuses UnmodelledOpcode with the byte and its address. That an immediate byte is read by the
fetch, so that exec makes no access for it, is the model's choice (log 12). -/
def Obligations.SbcSubtractsWithBorrow : Prop :=
  (OnForms [(0xE1, .indx), (0xE5, .zp), (0xE9, .imm), (0xED, .abs), (0xF1, .indy), (0xF5, .zpx), (0xF9, .absy),
            (0xFD, .absx)] fun i => ∀ s : State,
    ∃ t, exec i s = .next t ∧ SbcEffect (s.operandValue i.operand) (s.flag .c)
        (s.drawsAfter (s.operandReads i.operand)) s t ∧
      ArithFrame s t ∧ NoStore s t ∧ t.history = s.operandReads i.operand ++ s.history) ∧
  (OnForms [(0xEB, .imm)] fun i => ∀ s : State,
    (s.params.admitT3 = true → ∃ t, exec i s = .next t ∧ SbcEffect (s.operandValue i.operand) (s.flag .c)
        (s.drawsAfter (s.operandReads i.operand)) s t ∧
      ArithFrame s t ∧ NoStore s t ∧ t.history = s.operandReads i.operand ++ s.history) ∧
    (s.params.admitT3 = false →
      exec i s = .refused (.unmodelledOpcode i.opcode (s.pc - BitVec.ofNat 16 i.length))))

/-- With D = 1 and both nibbles of A and of the operand decimal digits, ADC leaves the sum of the two decimal numbers and C
mod 100, with C set exactly if it reaches 100, and SBC leaves their difference less (1 - C) mod 100, with C set exactly if
it is not negative; the result is again two decimal digits. -/
def Obligations.DecimalModeComputesDecimalNumbers : Prop :=
  ∀ (i : Instr) (s : State), i.tier = .t1 → s.flag .d = true →
    Digits s.a → Digits (s.operandValue i.operand) →
    (i.mnemonic = .adc → ∃ t, exec i s = .next t ∧ Digits t.a ∧
      decimalValue t.a =
        (decimalValue s.a + decimalValue (s.operandValue i.operand) + (s.flag .c).toNat) % 100 ∧
      (t.flag .c = true ↔
        100 ≤ decimalValue s.a + decimalValue (s.operandValue i.operand) + (s.flag .c).toNat)) ∧
    (i.mnemonic = .sbc → ∃ t, exec i s = .next t ∧ Digits t.a ∧
      (decimalValue t.a : Int) =
        (decimalValue s.a - decimalValue (s.operandValue i.operand) - (1 - (s.flag .c).toNat)) % 100 ∧
      (t.flag .c = true ↔
        (0 : Int) ≤ decimalValue s.a - decimalValue (s.operandValue i.operand) - (1 - (s.flag .c).toNat)))

/-- With D = 0, after ADC the flag V is 1 exactly if the signed sum of A, the operand and C lies outside -128..127, and
after SBC exactly if the signed difference does. The spec says that the operands are read as two's-complement for V. -/
def Obligations.OverflowIsSignedOverflow : Prop :=
  ∀ (i : Instr) (s : State), i.tier = .t1 → s.flag .d = false →
    (i.mnemonic = .adc → ∃ t, exec i s = .next t ∧
      (t.flag .v = true ↔
        ¬(-128 ≤ s.a.toInt + (s.operandValue i.operand).toInt + (s.flag .c).toNat ∧
          s.a.toInt + (s.operandValue i.operand).toInt + (s.flag .c).toNat ≤ 127))) ∧
    (i.mnemonic = .sbc → ∃ t, exec i s = .next t ∧
      (t.flag .v = true ↔
        ¬(-128 ≤ s.a.toInt - (s.operandValue i.operand).toInt - (1 - (s.flag .c).toNat) ∧
          s.a.toInt - (s.operandValue i.operand).toInt - (1 - (s.flag .c).toNat) ≤ 127)))

/-- AND, ORA and EOR, in each of their modes and from every state, answer a next state in which each bit of A is the
conjunction, disjunction or exclusive disjunction of the bits of A and the operand; Z and N describe it; everything else, C
and V included, stays. That an immediate byte is read by the fetch, so that exec makes no access for it, is the model's
choice (log 12). -/
def Obligations.LogicCombinesBits : Prop :=
  (OnForms [(0x21, .indx), (0x25, .zp), (0x29, .imm), (0x2D, .abs), (0x31, .indy), (0x35, .zpx), (0x39, .absy),
            (0x3D, .absx)] fun i => ∀ s : State,
    ∃ t, exec i s = .next t ∧ (∀ k, t.a.getLsbD k = (s.a.getLsbD k && (s.operandValue i.operand).getLsbD k)) ∧
      ZNof t.a t ∧ Quiet [.a] [.z, .n] i.operand s t) ∧
  (OnForms [(0x01, .indx), (0x05, .zp), (0x09, .imm), (0x0D, .abs), (0x11, .indy), (0x15, .zpx), (0x19, .absy),
            (0x1D, .absx)] fun i => ∀ s : State,
    ∃ t, exec i s = .next t ∧ (∀ k, t.a.getLsbD k = (s.a.getLsbD k || (s.operandValue i.operand).getLsbD k)) ∧
      ZNof t.a t ∧ Quiet [.a] [.z, .n] i.operand s t) ∧
  (OnForms [(0x41, .indx), (0x45, .zp), (0x49, .imm), (0x4D, .abs), (0x51, .indy), (0x55, .zpx), (0x59, .absy),
            (0x5D, .absx)] fun i => ∀ s : State,
    ∃ t, exec i s = .next t ∧ (∀ k, t.a.getLsbD k = (s.a.getLsbD k ^^ (s.operandValue i.operand).getLsbD k)) ∧
      ZNof t.a t ∧ Quiet [.a] [.z, .n] i.operand s t)

/-- CMP, CPX and CPY, in each of their modes and from every state, answer a next state: C is 1 exactly if the register is at
least the operand (unsigned), Z exactly if they are equal, N is bit 7 of their difference; V, D, every register and memory
stay. That an immediate byte is read by the fetch, so that exec makes no access for it, is the model's choice (log 12). -/
def Obligations.ComparesSetFlagsOnly : Prop :=
  (OnForms [(0xC1, .indx), (0xC5, .zp), (0xC9, .imm), (0xCD, .abs), (0xD1, .indy), (0xD5, .zpx), (0xD9, .absy),
            (0xDD, .absx)] fun i => ∀ s : State,
    ∃ t, exec i s = .next t ∧
      (t.flag .c = true ↔ (s.operandValue i.operand).toNat ≤ s.a.toNat) ∧
      (t.flag .z = true ↔ s.a = s.operandValue i.operand) ∧
      t.flag .n = (s.a - s.operandValue i.operand).getLsbD 7 ∧ Quiet [] [.c, .z, .n] i.operand s t) ∧
  (OnForms [(0xE0, .imm), (0xE4, .zp), (0xEC, .abs)] fun i => ∀ s : State,
    ∃ t, exec i s = .next t ∧
      (t.flag .c = true ↔ (s.operandValue i.operand).toNat ≤ s.x.toNat) ∧
      (t.flag .z = true ↔ s.x = s.operandValue i.operand) ∧
      t.flag .n = (s.x - s.operandValue i.operand).getLsbD 7 ∧ Quiet [] [.c, .z, .n] i.operand s t) ∧
  (OnForms [(0xC0, .imm), (0xC4, .zp), (0xCC, .abs)] fun i => ∀ s : State,
    ∃ t, exec i s = .next t ∧
      (t.flag .c = true ↔ (s.operandValue i.operand).toNat ≤ s.y.toNat) ∧
      (t.flag .z = true ↔ s.y = s.operandValue i.operand) ∧
      t.flag .n = (s.y - s.operandValue i.operand).getLsbD 7 ∧ Quiet [] [.c, .z, .n] i.operand s t)

/-- BIT, in both its modes and from every state, answers a next state: Z is 1 exactly if A AND the operand is zero, V is bit
6 and N bit 7 of the operand; A, C and everything else stay. -/
def Obligations.BitTestsMemory : Prop :=
  (OnForms [(0x24, .zp), (0x2C, .abs)] fun i => ∀ s : State,
    ∃ t, exec i s = .next t ∧ (t.flag .z = true ↔ s.a &&& s.operandValue i.operand = 0) ∧
      t.flag .v = (s.operandValue i.operand).getLsbD 6 ∧
      t.flag .n = (s.operandValue i.operand).getLsbD 7 ∧ Quiet [] [.z, .v, .n] i.operand s t)

/-- INC and DEC, in each of their modes, read the byte at the effective address once and write it once, one more or one less
mod 256; INX, INY, DEX and DEY do so to X or Y. Z and N describe the result; C, V, the other registers and the other bytes
of memory stay. Each answers a next state (INC and DEC from every state with canonical memory, the others from every state).
-/
def Obligations.IncrementsWrap : Prop :=
  (OnForms [(0xE6, .zp), (0xEE, .abs), (0xF6, .zpx), (0xFE, .absx)] fun i => ∀ s : State,
    Memory.wf s.mem = true →
    ∃ t r, exec i s = .next t ∧ r.toNat = ((s.operandValue i.operand).toNat + 1) % 256 ∧
      ZNof r t ∧ Modifying [] [.z, .n] i.operand r s t) ∧
  (OnForms [(0xC6, .zp), (0xCE, .abs), (0xD6, .zpx), (0xDE, .absx)] fun i => ∀ s : State,
    Memory.wf s.mem = true →
    ∃ t r, exec i s = .next t ∧ r.toNat = ((s.operandValue i.operand).toNat + 255) % 256 ∧
      ZNof r t ∧ Modifying [] [.z, .n] i.operand r s t) ∧
  (OnForms [(0xE8, .imp)] fun i => ∀ s : State,
    ∃ t, exec i s = .next t ∧ t.x.toNat = (s.x.toNat + 1) % 256 ∧ ZNof t.x t ∧
      Quiet [.x] [.z, .n] .imp s t) ∧
  (OnForms [(0xC8, .imp)] fun i => ∀ s : State,
    ∃ t, exec i s = .next t ∧ t.y.toNat = (s.y.toNat + 1) % 256 ∧ ZNof t.y t ∧
      Quiet [.y] [.z, .n] .imp s t) ∧
  (OnForms [(0xCA, .imp)] fun i => ∀ s : State,
    ∃ t, exec i s = .next t ∧ t.x.toNat = (s.x.toNat + 255) % 256 ∧ ZNof t.x t ∧
      Quiet [.x] [.z, .n] .imp s t) ∧
  (OnForms [(0x88, .imp)] fun i => ∀ s : State,
    ∃ t, exec i s = .next t ∧ t.y.toNat = (s.y.toNat + 255) % 256 ∧ ZNof t.y t ∧
      Quiet [.y] [.z, .n] .imp s t)

/-- ASL and LSR on A, from every state, and on memory in each mode, from every state with canonical memory, answer a next
state: the byte is doubled mod 256 or halved, C is the bit shifted out, Z and N describe the result; a memory form reads its
byte once and writes it once; everything else stays. -/
def Obligations.ShiftsMoveBitsByOne : Prop :=
  (OnForms [(0x0A, .acc)] fun i => ∀ s : State,
    ∃ t, exec i s = .next t ∧ t.a.toNat = s.a.toNat * 2 % 256 ∧ t.flag .c = s.a.getLsbD 7 ∧
      ZNof t.a t ∧ Quiet [.a] [.c, .z, .n] .acc s t) ∧
  (OnForms [(0x06, .zp), (0x0E, .abs), (0x16, .zpx), (0x1E, .absx)] fun i => ∀ s : State,
    Memory.wf s.mem = true →
    ∃ t r, exec i s = .next t ∧
      (let v := s.operandValue i.operand
       r.toNat = v.toNat * 2 % 256 ∧ t.flag .c = v.getLsbD 7) ∧
      ZNof r t ∧ Modifying [] [.c, .z, .n] i.operand r s t) ∧
  (OnForms [(0x4A, .acc)] fun i => ∀ s : State,
    ∃ t, exec i s = .next t ∧ t.a.toNat = s.a.toNat / 2 ∧ t.flag .c = s.a.getLsbD 0 ∧
      ZNof t.a t ∧ Quiet [.a] [.c, .z, .n] .acc s t) ∧
  (OnForms [(0x46, .zp), (0x4E, .abs), (0x56, .zpx), (0x5E, .absx)] fun i => ∀ s : State,
    Memory.wf s.mem = true →
    ∃ t r, exec i s = .next t ∧
      (let v := s.operandValue i.operand
       r.toNat = v.toNat / 2 ∧ t.flag .c = v.getLsbD 0) ∧
      ZNof r t ∧ Modifying [] [.c, .z, .n] i.operand r s t)

/-- ROL and ROR on A, from every state, and on memory in each mode, from every state with canonical memory, answer a next
state: the old C enters bit 0 or bit 7, C is the bit shifted out, Z and N describe the result; a memory form reads its byte
once and writes it once; everything else stays. -/
def Obligations.RotatesGoThroughCarry : Prop :=
  (OnForms [(0x2A, .acc)] fun i => ∀ s : State,
    ∃ t, exec i s = .next t ∧ t.a.toNat = (s.a.toNat * 2 + (s.flag .c).toNat) % 256 ∧ t.flag .c = s.a.getLsbD 7 ∧
      ZNof t.a t ∧ Quiet [.a] [.c, .z, .n] .acc s t) ∧
  (OnForms [(0x26, .zp), (0x2E, .abs), (0x36, .zpx), (0x3E, .absx)] fun i => ∀ s : State,
    Memory.wf s.mem = true →
    ∃ t r, exec i s = .next t ∧
      (let v := s.operandValue i.operand
       r.toNat = (v.toNat * 2 + (s.flag .c).toNat) % 256 ∧ t.flag .c = v.getLsbD 7) ∧
      ZNof r t ∧ Modifying [] [.c, .z, .n] i.operand r s t) ∧
  (OnForms [(0x6A, .acc)] fun i => ∀ s : State,
    ∃ t, exec i s = .next t ∧ t.a.toNat = s.a.toNat / 2 + 128 * (s.flag .c).toNat ∧ t.flag .c = s.a.getLsbD 0 ∧
      ZNof t.a t ∧ Quiet [.a] [.c, .z, .n] .acc s t) ∧
  (OnForms [(0x66, .zp), (0x6E, .abs), (0x76, .zpx), (0x7E, .absx)] fun i => ∀ s : State,
    Memory.wf s.mem = true →
    ∃ t r, exec i s = .next t ∧
      (let v := s.operandValue i.operand
       r.toNat = v.toNat / 2 + 128 * (s.flag .c).toNat ∧ t.flag .c = v.getLsbD 0) ∧
      ZNof r t ∧ Modifying [] [.c, .z, .n] i.operand r s t)

/-- BPL, BMI, BVC, BVS, BCC, BCS, BNE and BEQ, from every state, answer a next state with PC at the branch target exactly if
N, V, C or Z has the value they test, else with PC at the next instruction; they write no register, flag or memory and make
no access after their fetch. A trap address as the target fires no hook: the callbacks stay. -/
def Obligations.BranchesTestOneFlag : Prop :=
  (OnForms [(0x10, .rel)] fun i => ∀ s : State,
    ∃ t, exec i s = .next t ∧
      (s.flag .n = false → t.pc = s.effective i.operand) ∧ (s.flag .n ≠ false → t.pc = s.pc) ∧
      Frame [] [] s t ∧ NoStore s t ∧ t.history = s.history) ∧
  (OnForms [(0x30, .rel)] fun i => ∀ s : State,
    ∃ t, exec i s = .next t ∧
      (s.flag .n = true → t.pc = s.effective i.operand) ∧ (s.flag .n ≠ true → t.pc = s.pc) ∧
      Frame [] [] s t ∧ NoStore s t ∧ t.history = s.history) ∧
  (OnForms [(0x50, .rel)] fun i => ∀ s : State,
    ∃ t, exec i s = .next t ∧
      (s.flag .v = false → t.pc = s.effective i.operand) ∧ (s.flag .v ≠ false → t.pc = s.pc) ∧
      Frame [] [] s t ∧ NoStore s t ∧ t.history = s.history) ∧
  (OnForms [(0x70, .rel)] fun i => ∀ s : State,
    ∃ t, exec i s = .next t ∧
      (s.flag .v = true → t.pc = s.effective i.operand) ∧ (s.flag .v ≠ true → t.pc = s.pc) ∧
      Frame [] [] s t ∧ NoStore s t ∧ t.history = s.history) ∧
  (OnForms [(0x90, .rel)] fun i => ∀ s : State,
    ∃ t, exec i s = .next t ∧
      (s.flag .c = false → t.pc = s.effective i.operand) ∧ (s.flag .c ≠ false → t.pc = s.pc) ∧
      Frame [] [] s t ∧ NoStore s t ∧ t.history = s.history) ∧
  (OnForms [(0xB0, .rel)] fun i => ∀ s : State,
    ∃ t, exec i s = .next t ∧
      (s.flag .c = true → t.pc = s.effective i.operand) ∧ (s.flag .c ≠ true → t.pc = s.pc) ∧
      Frame [] [] s t ∧ NoStore s t ∧ t.history = s.history) ∧
  (OnForms [(0xD0, .rel)] fun i => ∀ s : State,
    ∃ t, exec i s = .next t ∧
      (s.flag .z = false → t.pc = s.effective i.operand) ∧ (s.flag .z ≠ false → t.pc = s.pc) ∧
      Frame [] [] s t ∧ NoStore s t ∧ t.history = s.history) ∧
  (OnForms [(0xF0, .rel)] fun i => ∀ s : State,
    ∃ t, exec i s = .next t ∧
      (s.flag .z = true → t.pc = s.effective i.operand) ∧ (s.flag .z ≠ true → t.pc = s.pc) ∧
      Frame [] [] s t ∧ NoStore s t ∧ t.history = s.history)

/-- JMP in both modes and from every state. With its target not in TRAPS it answers a next state with PC at the target after
the pointer's reads only, and everything else as before. With its target in TRAPS it answers one that is the state after
Resolve (PC past the JMP, nothing but the pointer's reads done) with the hook open: its call recorded once, for that target,
and the callback open, with its calls and its return still to come. That a callback is scripted or free, and that its calls
and its return are steps that follow, is the model's choice (log 8); what the return does is stated by
TrapReturnEndsTheTransfer. -/
def Obligations.JmpTransfersThroughTheHook : Prop :=
  (OnForms [(0x4C, .abs), (0x6C, .ind)] fun i => ∀ s : State,
    s.effective i.operand ∉ s.params.traps →
    ∃ t, exec i s = .next t ∧ t.pc = s.effective i.operand ∧ Frame [] [] s t ∧ NoStore s t ∧
      t.history = s.pointerEvents i.operand ++ s.history) ∧
  (OnForms [(0x4C, .abs), (0x6C, .ind)] fun i => ∀ s : State,
    s.effective i.operand ∈ s.params.traps →
    ∃ t u, exec i s = .next t ∧ Resolved i.operand s u ∧ HookOpened (s.effective i.operand) none u t)

/-- JSR, from every state with canonical memory. With its target not in TRAPS, under both values of TRAP_JSR_ORDER, it
answers a next state with PC - 1 on the stack, high byte first, and PC at the target. With its target in TRAPS: under
PushThenHook the return address is pushed and then the hook opens; under HookThenPush the hook opens with nothing pushed,
and the push is left to the callback's return. That a callback is scripted or free, and that its calls and its return are
steps that follow, is the model's choice (log 8); what the return does under both orders and both outcomes is stated by
TrapReturnEndsTheTransfer. -/
def Obligations.JsrPushesAndTransfers : Prop :=
  (OnForms [(0x20, .abs)] fun i => ∀ s : State,
    s.effective i.operand ∉ s.params.traps → Memory.wf s.mem = true →
    ∃ t u, exec i s = .next t ∧ Pushed16 (s.pc - 1) s u ∧ Frame [.sp] [] s t ∧ t.sp = u.sp ∧ t.mem = u.mem ∧
      t.history = u.history ∧ t.pc = s.effective i.operand) ∧
  (OnForms [(0x20, .abs)] fun i => ∀ s : State,
    s.effective i.operand ∈ s.params.traps → Memory.wf s.mem = true →
    ∃ t, exec i s = .next t ∧
      (s.params.trapJsrOrder = .pushThenHook → ∃ u, Pushed16 (s.pc - 1) s u ∧
        HookOpened (s.effective i.operand) none u t) ∧
      (s.params.trapJsrOrder = .hookThenPush → ∃ u, Resolved i.operand s u ∧
        HookOpened (s.effective i.operand) (some (s.pc - 1)) u t))

/-- When exec of an instruction other than JMP and JSR answers a next state, the history holds the same hook calls as
before, and the callbacks, open or to come, and the schedule are as they were. -/
def Obligations.OnlyJumpsFireTheHook : Prop :=
  ∀ (i : Instr) (s t : State), i.mnemonic ≠ .jmp → i.mnemonic ≠ .jsr → exec i s = .next t →
    hookCalls t.history = hookCalls s.history ∧ t.callbacks = s.callbacks ∧
      t.openCallbacks = s.openCallbacks ∧ t.inputs = s.inputs

/-- RTS, from every state, answers a next state: PC is the pulled word plus one mod 2^16, SP is two more mod 256, the two
reads are those of the two addresses above SP in page 1, low byte first; everything else stays, and no hook fires. -/
def Obligations.RtsReturnsAfterTheCall : Prop :=
  (OnForms [(0x60, .imp)] fun i => ∀ s : State,
    let p1 := stackAddr (s.sp + 1)
    let p2 := stackAddr (s.sp + 2)
    let lo := s.peekValue p1
    let hi := (s.afterRead p1).peekValue p2
    ∃ t, exec i s = .next t ∧ t.pc = word hi lo + 1 ∧ t.sp = s.sp + 2 ∧ Frame [.sp] [] s t ∧ NoStore s t ∧
      t.history = [.read p2 hi, .read p1 lo] ++ s.history)

/-- From a state with canonical memory whose two stack bytes are plain RAM, JSR to a target that is no trap address answers
a next state t; in any state under the same MEM_ENV with t's stack pointer and t's two stack bytes, RTS answers a state
whose PC is the address after the JSR and whose SP is that before the JSR, for every SP, wrapping in page 1. -/
def Obligations.RtsUndoesJsr : Prop :=
  ∀ (w : Word) (s : State), w ∉ s.params.traps → Memory.wf s.mem = true →
    s.envOwns (stackAddr s.sp) = false → s.envOwns (stackAddr (s.sp - 1)) = false →
    ∃ t, exec (.jsrAbs w) s = .next t ∧ t.pc = w ∧
      ∀ u : State, u.params.memEnv = s.params.memEnv → u.sp = t.sp → u.mem.read (stackAddr s.sp) = t.mem.read (stackAddr s.sp) →
        u.mem.read (stackAddr (s.sp - 1)) = t.mem.read (stackAddr (s.sp - 1)) →
        ∃ v, exec .rts u = .next v ∧ v.pc = s.pc ∧ v.sp = s.sp

/-- PHA and PHP, from every state with canonical memory, answer a next state: the byte at $0100 + SP, if it is plain RAM, is
A, or P with bits 4 and 5 set; SP is one less mod 256; every other byte, register and flag, the live P whole, and PC stay;
that write is the only access. -/
def Obligations.PushesStoreInPageOne : Prop :=
  (OnForms [(0x48, .imp)] fun i => ∀ s : State,
    Memory.wf s.mem = true →
    ∃ t, exec i s = .next t ∧ t.pc = s.pc ∧ t.sp.toNat = (s.sp.toNat + 255) % 256 ∧
      StoresAt (BitVec.ofNat 16 (256 + s.sp.toNat)) (s.a) s t ∧ Frame [.sp] [] s t ∧
      t.history = .write (BitVec.ofNat 16 (256 + s.sp.toNat)) (s.a) :: s.history) ∧
  (OnForms [(0x08, .imp)] fun i => ∀ s : State,
    Memory.wf s.mem = true →
    ∃ t, exec i s = .next t ∧ t.pc = s.pc ∧ t.sp.toNat = (s.sp.toNat + 255) % 256 ∧
      StoresAt (BitVec.ofNat 16 (256 + s.sp.toNat)) (s.p ||| 0x30) s t ∧ Frame [.sp] [] s t ∧
      t.history = .write (BitVec.ofNat 16 (256 + s.sp.toNat)) (s.p ||| 0x30) :: s.history)

/-- PLA and PLP, from every state, answer a next state: SP is one more mod 256; A is the byte at $0100 + the new SP with Z
and N describing it, or P is that byte with bit 5 set; memory, PC and everything else stay; that read is the only access. -/
def Obligations.PullsReadPageOne : Prop :=
  (OnForms [(0x68, .imp)] fun i => ∀ s : State,
    let b := s.peekValue (BitVec.ofNat 16 (256 + (s.sp.toNat + 1) % 256))
    ∃ t, exec i s = .next t ∧ t.a = b ∧ ZNof b t ∧ t.sp.toNat = (s.sp.toNat + 1) % 256 ∧ t.pc = s.pc ∧
      Frame [.a, .sp] [.z, .n] s t ∧ NoStore s t ∧
      t.history = .read (BitVec.ofNat 16 (256 + (s.sp.toNat + 1) % 256)) b :: s.history) ∧
  (OnForms [(0x28, .imp)] fun i => ∀ s : State,
    let b := s.peekValue (BitVec.ofNat 16 (256 + (s.sp.toNat + 1) % 256))
    ∃ t, exec i s = .next t ∧ t.p = b ||| 0x20 ∧ t.sp.toNat = (s.sp.toNat + 1) % 256 ∧ t.pc = s.pc ∧
      Frame [.sp] allFlags s t ∧ NoStore s t ∧
      t.history = .read (BitVec.ofNat 16 (256 + (s.sp.toNat + 1) % 256)) b :: s.history)

/-- Each flag instruction, from every state, answers a next state in which its flag has its value and every other flag,
every register, memory and PC are as before, with no access. -/
def Obligations.FlagInstructionsWriteOneFlag : Prop :=
  (OnForms [(0x18, .imp)] fun i => ∀ s : State,
    ∃ t, exec i s = .next t ∧ t.flag .c = false ∧ Quiet [] [.c] .imp s t) ∧
  (OnForms [(0x38, .imp)] fun i => ∀ s : State,
    ∃ t, exec i s = .next t ∧ t.flag .c = true ∧ Quiet [] [.c] .imp s t) ∧
  (OnForms [(0x58, .imp)] fun i => ∀ s : State,
    ∃ t, exec i s = .next t ∧ t.flag .i = false ∧ Quiet [] [.i] .imp s t) ∧
  (OnForms [(0x78, .imp)] fun i => ∀ s : State,
    ∃ t, exec i s = .next t ∧ t.flag .i = true ∧ Quiet [] [.i] .imp s t) ∧
  (OnForms [(0xD8, .imp)] fun i => ∀ s : State,
    ∃ t, exec i s = .next t ∧ t.flag .d = false ∧ Quiet [] [.d] .imp s t) ∧
  (OnForms [(0xF8, .imp)] fun i => ∀ s : State,
    ∃ t, exec i s = .next t ∧ t.flag .d = true ∧ Quiet [] [.d] .imp s t) ∧
  (OnForms [(0xB8, .imp)] fun i => ∀ s : State,
    ∃ t, exec i s = .next t ∧ t.flag .v = false ∧ Quiet [] [.v] .imp s t)

/-- NOP $EA from every state, and each of the 27 undocumented NOP bytes from every state with ADMIT_T3 true, answer a next
state with every register, flag, PC and byte of memory as before; the reads of the operand (none for an implied one) are the
only accesses. With ADMIT_T3 false the 27 bytes refuse UnmodelledOpcode with the byte and its address. That an immediate
byte is read with the fetch is the model's choice (log 12): R390 and R143 read it in the execute phase. -/
def Obligations.NopsChangeNothing : Prop :=
  (OnForms [(0xEA, .imp)] fun i => ∀ s : State,
    ∃ t, exec i s = .next t ∧ Quiet [] [] .imp s t) ∧
  (OnForms [(0x04, .zp), (0x0C, .abs), (0x14, .zpx), (0x1A, .imp), (0x1C, .absx), (0x34, .zpx), (0x3A, .imp),
            (0x3C, .absx), (0x44, .zp), (0x54, .zpx), (0x5A, .imp), (0x5C, .absx), (0x64, .zp), (0x74, .zpx),
            (0x7A, .imp), (0x7C, .absx), (0x80, .imm), (0x82, .imm), (0x89, .imm), (0xC2, .imm), (0xD4, .zpx),
            (0xDA, .imp), (0xDC, .absx), (0xE2, .imm), (0xF4, .zpx), (0xFA, .imp), (0xFC, .absx)] fun i => ∀ s : State,
    (s.params.admitT3 = true → ∃ t, exec i s = .next t ∧ Quiet [] [] i.operand s t) ∧
    (s.params.admitT3 = false →
      exec i s = .refused (.unmodelledOpcode i.opcode (s.pc - BitVec.ofNat 16 i.length))))

/-- BRK, from every state with canonical memory, whatever I is, answers a next state: PC + 1 (PC is one past the opcode) and
then P with bits 4 and 5 set are on the stack, SP is three less, I is 1, PC is the vector at $FFFE/$FFFF; D, the live B and
everything else stay, and the five accesses are those of the rule, in order. -/
def Obligations.BrkEntersTheHandler : Prop :=
  (OnForms [(0x00, .imp)] fun i => ∀ s : State,
    Memory.wf s.mem = true →
    ∃ t, exec i s = .next t ∧ HandlerEntered (s.pc + 1) (s.p ||| 0x30) 0xFFFE s t)

/-- RTI, from every state, answers a next state: P is the first byte pulled with bit 5 set, PC the next two, low byte first
and with nothing added, SP three more mod 256; everything else stays, and the three reads are in that order. -/
def Obligations.RtiReturnsFromTheHandler : Prop :=
  (OnForms [(0x40, .imp)] fun i => ∀ s : State,
    let p1 := stackAddr (s.sp + 1)
    let p2 := stackAddr (s.sp + 2)
    let p3 := stackAddr (s.sp + 3)
    let v := s.peekValue p1
    let lo := (s.afterRead p1).peekValue p2
    let hi := ((s.afterRead p1).afterRead p2).peekValue p3
    ∃ t, exec i s = .next t ∧ t.p = v ||| 0x20 ∧ t.pc = word hi lo ∧ t.sp = s.sp + 3 ∧
      Frame [.sp] allFlags s t ∧ NoStore s t ∧
      t.history = [.read p3 hi, .read p2 lo, .read p1 v] ++ s.history)

/-- A step on an irq() call, between instructions or inside a trap callback, answers a next state: while I is 1 only the
call is used up, and nothing is remembered; while I is 0 (and memory canonical) the address of the next instruction and P
with bit 5 set and bit 4 clear are on the stack, I is 1, PC is the vector at $FFFE/$FFFF, and everything else stays. -/
def Obligations.IrqIsMaskedByI : Prop :=
  ∀ s u : State, Due .irq s u →
    (s.flag .i = true → step s = .next u) ∧
    (s.flag .i = false → Memory.wf s.mem = true →
      ∃ t, step s = .next t ∧
        HandlerEntered s.pc ((s.p ||| 0x20) &&& 0xEF) 0xFFFE u t)

/-- A step on an nmi() call, between instructions or inside a trap callback, from every state with canonical memory, answers
a next state: the address of the next instruction and P with bit 5 set and bit 4 clear are on the stack, SP is three less, I
is 1, PC is the vector at $FFFA/$FFFB, and everything else stays; the accesses are three writes and then two reads, in the
order of the rule. -/
def Obligations.NmiIsAlwaysTaken : Prop :=
  ∀ s u : State, Due .nmi s u → Memory.wf s.mem = true →
    ∃ t, step s = .next t ∧ HandlerEntered s.pc ((s.p ||| 0x20) &&& 0xEF) 0xFFFA u t

/-- At one boundary, between instructions or inside a trap callback, with canonical memory: nmi() and then, if it is due
next, irq() leave exactly the state after the NMI entry, with both calls used up; irq() with I = 0 and then nmi() enter
both, the NMI's pushed return address being the IRQ handler's first instruction. -/
def Obligations.OrderOfSimultaneousInterrupts : Prop :=
  ∀ s u : State, Memory.wf s.mem = true →
    (Due .nmi s u →
      ∃ t, step s = .next t ∧ HandlerEntered s.pc ((s.p ||| 0x20) &&& 0xEF) 0xFFFA u t ∧
        ∀ v, Due .irq t v → step t = .next v) ∧
    (Due .irq s u → s.flag .i = false →
      ∃ t, step s = .next t ∧ HandlerEntered s.pc ((s.p ||| 0x20) &&& 0xEF) 0xFFFE u t ∧
        ∀ v, Due .nmi t v →
          ∃ w, step t = .next w ∧ HandlerEntered t.pc ((t.p ||| 0x20) &&& 0xEF) 0xFFFA v w)

/-- From a state with canonical memory whose three stack bytes are plain RAM: after a taken irq(), an nmi() or a BRK, in any
state under the same MEM_ENV with the SP of the entry and its three stack bytes, RTI answers a state with the SP before the
entry, every flag but B as before the entry, bit 5 set, and PC at the interrupted instruction (after BRK: two past the BRK).
The live B is then the pushed bit 4: 0 after an interrupt, 1 after BRK. -/
def Obligations.RtiResumesTheInterruptedCode : Prop :=
  ∀ (s t u : State) (ret : Word) (b : Bool), Memory.wf s.mem = true →
    s.envOwns (stackAddr s.sp) = false → s.envOwns (stackAddr (s.sp - 1)) = false →
    s.envOwns (stackAddr (s.sp - 2)) = false →
    (Due .irq s u ∧ s.flag .i = false ∧ step s = .next t ∧ ret = s.pc ∧ b = false) ∨
    (Due .nmi s u ∧ step s = .next t ∧ ret = s.pc ∧ b = false) ∨
    (exec .brk s = .next t ∧ ret = s.pc + 1 ∧ b = true) →
    ∀ h : State, h.params.memEnv = s.params.memEnv → h.sp = t.sp → h.mem.read (stackAddr s.sp) = t.mem.read (stackAddr s.sp) →
      h.mem.read (stackAddr (s.sp - 1)) = t.mem.read (stackAddr (s.sp - 1)) →
      h.mem.read (stackAddr (s.sp - 2)) = t.mem.read (stackAddr (s.sp - 2)) →
      ∃ v, exec .rti h = .next v ∧ v.pc = ret ∧ v.sp = s.sp ∧
        (∀ f, f ≠ .b → v.flag f = s.flag f) ∧ v.flag .b = b ∧ v.p.getLsbD 5 = true

/-- A step on fastclock(), or on a clock() call at which the host lets the instruction run, is the core's step of the state
with that call used up: the same in both modes, and the same as the step with nothing due. A clock() call that runs no
instruction answers a next state that differs in debt only and in the call used up. That debt is then a free value is the
model's choice (log 3). -/
def Obligations.HostCallsRunOneInstructionOrNone : Prop :=
  ∀ s u : State,
    (Due .fastclock s u → step s = coreStep u) ∧
    (Due (.clock true) s u → step s = coreStep u) ∧
    (s.Idle → step s = coreStep s) ∧
    (Due (.clock false) s u →
      step s = .next { u with debt := (Config.boundaryDraw s.draws).debt, draws := s.draws + 1 })

/-- A step on a setpatch call, from a state with a sorted table of at most 32 addresses, answers a next state whose table is
sorted, holds at most 32 addresses, and holds exactly the old ones and, if there were fewer than 32, the new one; nothing
else differs but the call used up. That a second entry at an address leaves the set as it is, is the model's choice (log 9).
-/
def Obligations.SetpatchKeepsASortedTable : Prop :=
  ∀ (s u : State) (a : Word), Due (.setpatch a) s u → s.params.wf = true →
    ∃ t, step s = .next t ∧ t.params.wf = true ∧
      (∀ w, w ∈ t.params.traps ↔ w ∈ s.params.traps ∨ (w = a ∧ s.params.traps.length < 32)) ∧
      t = { u with params := { s.params with traps := t.params.traps } }

/-- Between instructions or inside a trap callback, a step on a host read of plain RAM answers a next state that differs in
the history only, and records the byte read; a step on a host write, from a state with canonical memory, answers one in
which that byte, if it is plain RAM, is the one written, every other byte is as before, and the write is recorded. At an
address that MEM_ENV answers, a host read gives its next answer, scripted or free, and a host write changes no byte of
memory: the model's form of MEM_ENV (log 6). Registers, P, PC and everything else but the call used up stay. -/
def Obligations.HostAccessesTakeTheirPlace : Prop :=
  ∀ (s u : State) (a : Word) (v : Byte),
    (Due (.peek a) s u →
      (s.envOwns a = false → step s = .next { u with history := .hostRead a (s.mem.read a) :: s.history }) ∧
      (s.envOwns a = true → ∀ b r, s.answers = b :: r →
        step s = .next { u with answers := r, history := .hostRead a b :: s.history }) ∧
      (s.envOwns a = true → s.answers = [] →
        step s = .next { u with draws := s.draws + 1, history := .hostRead a (Config.memDraw s.draws) :: s.history })) ∧
    (Due (.poke a v) s u → Memory.wf s.mem = true →
      ∃ t, step s = .next t ∧ StoresAt a v s t ∧ (s.envOwns a = true → t.mem = s.mem) ∧
        t = { u with mem := t.mem, history := .hostWrite a v :: s.history })

/-- SLO, RLA and SRE, in each of their seven modes and from every state with canonical memory, answer a next state: the byte
is read once and the shifted or rotated byte written once, C is the bit shifted out, A is A OR, AND or EOR the written byte,
Z and N describe A; everything else stays. -/
def Obligations.ShiftThenLogicFamilies : Prop :=
  (OnForms [(0x03, .indx), (0x07, .zp), (0x0F, .abs), (0x13, .indy), (0x17, .zpx), (0x1B, .absy), (0x1F, .absx)] fun i => ∀ s : State,
    Memory.wf s.mem = true →
    ∃ t r, exec i s = .next t ∧
      (let v := s.operandValue i.operand
       r.toNat = v.toNat * 2 % 256 ∧ t.flag .c = v.getLsbD 7) ∧
      t.a = s.a ||| r ∧ ZNof t.a t ∧
      Modifying [.a] [.c, .z, .n] i.operand r s t) ∧
  (OnForms [(0x23, .indx), (0x27, .zp), (0x2F, .abs), (0x33, .indy), (0x37, .zpx), (0x3B, .absy), (0x3F, .absx)] fun i => ∀ s : State,
    Memory.wf s.mem = true →
    ∃ t r, exec i s = .next t ∧
      (let v := s.operandValue i.operand
       r.toNat = (v.toNat * 2 + (s.flag .c).toNat) % 256 ∧ t.flag .c = v.getLsbD 7) ∧
      t.a = s.a &&& r ∧ ZNof t.a t ∧
      Modifying [.a] [.c, .z, .n] i.operand r s t) ∧
  (OnForms [(0x43, .indx), (0x47, .zp), (0x4F, .abs), (0x53, .indy), (0x57, .zpx), (0x5B, .absy), (0x5F, .absx)] fun i => ∀ s : State,
    Memory.wf s.mem = true →
    ∃ t r, exec i s = .next t ∧
      (let v := s.operandValue i.operand
       r.toNat = v.toNat / 2 ∧ t.flag .c = v.getLsbD 0) ∧
      t.a = s.a ^^^ r ∧ ZNof t.a t ∧
      Modifying [.a] [.c, .z, .n] i.operand r s t)

/-- RRA and ISB, in each of their seven modes and from every state with canonical memory, answer a next state: the byte is
read once and written once, rotated right through C or incremented mod 256; then A, C, V, Z and N are those of ADC of the
written byte with the bit rotated out as carry-in, or of SBC of it with C, in binary or decimal as D says; everything else
stays. -/
def Obligations.ModifyThenArithmeticFamilies : Prop :=
  (OnForms [(0x63, .indx), (0x67, .zp), (0x6F, .abs), (0x73, .indy), (0x77, .zpx), (0x7B, .absy), (0x7F, .absx)] fun i => ∀ s : State,
    Memory.wf s.mem = true →
    ∃ t r, exec i s = .next t ∧
      (let v := s.operandValue i.operand
       r.toNat = v.toNat / 2 + 128 * (s.flag .c).toNat ∧
       AdcEffect r (v.getLsbD 0) (s.drawsAfter (s.operandReads i.operand)) s t) ∧
      ArithFrame s t ∧ StoresAt (s.effective i.operand) r s t ∧
      t.history = .write (s.effective i.operand) r :: s.operandReads i.operand ++ s.history) ∧
  (OnForms [(0xE3, .indx), (0xE7, .zp), (0xEF, .abs), (0xF3, .indy), (0xF7, .zpx), (0xFB, .absy), (0xFF, .absx)] fun i => ∀ s : State,
    Memory.wf s.mem = true →
    ∃ t r, exec i s = .next t ∧
      (let v := s.operandValue i.operand
       r.toNat = (v.toNat + 1) % 256 ∧
       SbcEffect r (s.flag .c) (s.drawsAfter (s.operandReads i.operand)) s t) ∧
      ArithFrame s t ∧ StoresAt (s.effective i.operand) r s t ∧
      t.history = .write (s.effective i.operand) r :: s.operandReads i.operand ++ s.history)

/-- DCP, in each of its seven modes and from every state with canonical memory, answers a next state: the byte is read once
and written once, one less mod 256; C, Z and N are those of the comparison of A with the written byte; A, V and everything
else stay. -/
def Obligations.DcpDecrementsThenCompares : Prop :=
  (OnForms [(0xC3, .indx), (0xC7, .zp), (0xCF, .abs), (0xD3, .indy), (0xD7, .zpx), (0xDB, .absy), (0xDF, .absx)] fun i => ∀ s : State,
    Memory.wf s.mem = true →
    ∃ t r, exec i s = .next t ∧
      (let v := s.operandValue i.operand
       r.toNat = (v.toNat + 255) % 256) ∧
      (t.flag .c = true ↔ r.toNat ≤ s.a.toNat) ∧ (t.flag .z = true ↔ s.a = r) ∧
      t.flag .n = (s.a - r).getLsbD 7 ∧
      Modifying [] [.c, .z, .n] i.operand r s t)

/-- Each of the 25 bytes of tier T4, with any operand and in every state, refuses UnmodelledOpcode with its byte and the
address of its opcode, which is PC less the instruction's length once PC is past it. -/
def Obligations.RefusedBytesRefuse : Prop :=
  OnForms [(0x02, .imp), (0x0B, .imm), (0x12, .imp), (0x22, .imp), (0x2B, .imm), (0x32, .imp), (0x42, .imp),
            (0x4B, .imm), (0x52, .imp), (0x62, .imp), (0x6B, .imm), (0x72, .imp), (0x8B, .imm), (0x92, .imp),
            (0x93, .indy), (0x9B, .absy), (0x9C, .absx), (0x9E, .absy), (0x9F, .absy), (0xAB, .imm), (0xB2, .imp),
            (0xBB, .absy), (0xCB, .imm), (0xD2, .imp), (0xF2, .imp)] fun i => ∀ s : State,
    exec i s = .refused (.unmodelledOpcode i.opcode (s.pc - BitVec.ofNat 16 i.length))

/-- When exec answers a next state, C, I, D, B and V are as before unless the instruction is one that the flag's rule lists;
Z and N unless it calls SetZN or is BIT, PLP or RTI. A trap callback that JMP or JSR opens may write any flag, by steps of
its own (log 8). -/
def Obligations.FlagsHaveTheirWriters : Prop :=
  ∀ (i : Instr) (s t : State), exec i s = .next t → i.mnemonic ∉ [.plp, .rti] →
    (i.mnemonic ∉ [.adc, .sbc, .cmp, .cpx, .cpy, .asl, .lsr, .rol, .ror, .clc, .sec, .slo, .rla, .sre, .rra,
      .dcp, .isb] → t.flag .c = s.flag .c) ∧
    (i.mnemonic ∉ [.sei, .cli, .brk] → t.flag .i = s.flag .i) ∧
    (i.mnemonic ∉ [.sed, .cld] → t.flag .d = s.flag .d) ∧
    t.flag .b = s.flag .b ∧
    (i.mnemonic ∉ [.adc, .sbc, .rra, .isb, .bit, .clv] → t.flag .v = s.flag .v) ∧
    (i.mnemonic ∈ [.sta, .stx, .sty, .sax, .txs, .pha, .php, .nop, .brk, .rts, .clc, .sec, .cli, .sei, .cld, .sed,
      .clv, .bpl, .bmi, .bvc, .bvs, .bcc, .bcs, .bne, .beq, .jmp, .jsr] →
      t.flag .z = s.flag .z ∧ t.flag .n = s.flag .n)

/-- When exec answers a next state, A, X, Y and SP are as before unless the instruction is one that the register's rule
lists as a writer (for A, the shifts count in accumulator mode only). A trap callback that JMP or JSR opens may write any
register, by steps of its own (log 8). -/
def Obligations.RegistersHaveTheirWriters : Prop :=
  ∀ (i : Instr) (s t : State), exec i s = .next t →
    (i.mnemonic ∉ [.lda, .pla, .txa, .tya, .adc, .sbc, .and, .ora, .eor, .lax, .slo, .rla, .sre, .rra, .isb] →
      i.operand.mode ≠ .acc → t.a = s.a) ∧
    (i.mnemonic ∉ [.ldx, .tax, .tsx, .inx, .dex, .lax] → t.x = s.x) ∧
    (i.mnemonic ∉ [.ldy, .tay, .iny, .dey] → t.y = s.y) ∧
    (i.mnemonic ∉ [.txs, .pha, .php, .pla, .plp, .jsr, .rts, .rti, .brk] → t.sp = s.sp)

/-- When exec answers a next state, memory is the same unless the instruction is STA, STX, STY, SAX, a read-modify-write in
a memory mode, PHA, PHP, BRK or JSR. A trap callback that JMP or JSR opens changes memory by steps of its own (log 8). -/
def Obligations.MemoryHasItsWriters : Prop :=
  ∀ (i : Instr) (s t : State), exec i s = .next t →
    (i.mnemonic ∉ [.sta, .stx, .sty, .sax, .inc, .dec, .slo, .rla, .sre, .rra, .dcp, .isb, .pha, .php, .brk, .jsr] →
      (i.mnemonic ∈ [.asl, .lsr, .rol, .ror] → i.operand.mode = .acc) → t.mem = s.mem)

/-- A step of an open callback whose calls are done is its return, and answers a next state with that callback closed. With
Redirect, PC and all state are as the callback left them. With FallThrough, PC is its target, after the push of the return
address where JSR left one due (canonical memory), on the stack as the callback left it; everything else is as the callback
left it. Either way the latches and debt hold free values (log 3). That the return is a step of its own is the model's
choice (log 8). -/
def Obligations.TrapReturnEndsTheTransfer : Prop :=
  ∀ (s : State) (o : OpenCallback) (os : List OpenCallback), s.openCallbacks = o :: os → o.calls = [] →
    let u := { s with openCallbacks := os }
    (o.outcome = .redirect → ∃ t, step s = .next t ∧ AtBoundary u t) ∧
    (o.outcome = .fallThrough → o.push = none → ∃ t, step s = .next t ∧ AtBoundary { u with pc := o.target } t) ∧
    (∀ ret, o.outcome = .fallThrough → o.push = some ret → Memory.wf s.mem = true →
      ∃ t v, step s = .next t ∧ Pushed16 ret u v ∧ AtBoundary { v with pc := o.target } t)

/-- From a state whose next step fetches a JMP, in either mode, to a trap address, with nothing due from the environment and
a scripted callback that makes no call and falls through: two steps lead to a state with PC at the target, the callback used
up, none open, nothing scheduled, the hook recorded once for the target, and A, X, Y, SP, P, memory and the parameters as
before. That a callback's return is a step of its own is the model's choice (log 8). -/
def Obligations.CallbackThatOnlyFallsThrough : Prop :=
  ∀ (s : State) (i : Instr) (cs : List TrapEffect), s.Idle → i.mnemonic = .jmp →
    decode (s.bytesAtPc i.length) = .ok i [] →
    (s.afterFetch i.length).effective i.operand ∈ s.params.traps →
    s.callbacks = { calls := [], outcome := .fallThrough } :: cs →
    ∃ t u, step s = .next t ∧ step t = .next u ∧ u.pc = (s.afterFetch i.length).effective i.operand ∧
      u.callbacks = cs ∧ u.Idle ∧ hookCalls u.history = u.pc :: hookCalls s.history ∧
      (∀ r, u.reg r = s.reg r) ∧ u.p = s.p ∧ u.mem = s.mem ∧ u.params = s.params

/-- A step on a host write of a register, which stands in an open callback only, answers a next state in which that register
holds the byte or word written (P with bit 5 forced to 1) and nothing else differs but the write used up. That the host's
writes are steps of their own is the model's choice (log 8). -/
def Obligations.HostWritesOneRegister : Prop :=
  ∀ (s : State) (o : OpenCallback) (os : List OpenCallback) (cs : List CallbackCall) (v : Byte) (w : Word),
    s.openCallbacks = o :: os →
    let u := { s with openCallbacks := { o with calls := cs } :: os }
    (o.calls = .write (.a v) :: cs → step s = .next { u with a := v }) ∧
    (o.calls = .write (.x v) :: cs → step s = .next { u with x := v }) ∧
    (o.calls = .write (.y v) :: cs → step s = .next { u with y := v }) ∧
    (o.calls = .write (.sp v) :: cs → step s = .next { u with sp := v }) ∧
    (o.calls = .write (.p v) :: cs → step s = .next { u with p := v ||| 0x20 }) ∧
    (o.calls = .write (.pc w) :: cs → step s = .next { u with pc := w })

/-- Under the default MEM_ENV every address is plain RAM, and reset has the default. A load of plain RAM, in every memory
mode, gives the byte of memory at the effective address. LDA abs at an address that MEM_ENV answers loads its next answer,
the scripted one or else a free value; STA abs there is recorded and changes no byte of memory. Both complete, and nothing
else of the environment's data changes. That MEM_ENV is a list of regions with a list of answers is the model's choice (log
6). -/
def Obligations.MemoryEnvironmentAnswersItsAddresses : Prop :=
  State.reset.params.memEnv = [] ∧
  (∀ (s : State) (a : Word), s.params.memEnv = [] → s.envOwns a = false) ∧
  (∀ (s : State) (o : Operand), o.mode ∉ [Mode.acc, .imm] → s.envOwns (s.effective o) = false →
    s.operandValue o = s.mem.read (s.effective o)) ∧
  (∀ (s : State) (w : Word), s.envOwns w = true →
    (∀ b r, s.answers = b :: r → ∃ t, exec (.ldaAbs w) s = .next t ∧ t.a = b ∧ ZNof b t ∧ t.answers = r ∧
      t.draws = s.draws ∧ t.mem = s.mem ∧ t.history = .read w b :: s.history ∧ t.params = s.params) ∧
    (s.answers = [] → ∃ t, exec (.ldaAbs w) s = .next t ∧ t.a = Config.memDraw s.draws ∧ ZNof t.a t ∧
      t.answers = [] ∧ t.draws = s.draws + 1 ∧ t.mem = s.mem ∧ t.history = .read w t.a :: s.history ∧
      t.params = s.params) ∧
    ∃ t, exec (.staAbs w) s = .next t ∧ t.mem = s.mem ∧ t.answers = s.answers ∧ t.draws = s.draws ∧
      t.history = .write w s.a :: s.history ∧ t.params = s.params)

/-- From a state with no callback open and canonical memory, let a step answer a next state. If it is a call of the
environment, PC is: as before for clock() that runs nothing, reads, writes and setpatch, and for a masked irq(); the word at
$FFFE, $FFFA or $FFFC for irq(), nmi() and reset(), whatever the state; and for a call that runs an instruction, what the
core's own step gives. And a callback is open afterwards only if the hook fired in that step, once, for a target in TRAPS: a
register write or a return, which alone can send PC elsewhere, stands in an open callback only. That callbacks stand open as
state is the model's choice (log 8). -/
def Obligations.OnlyTheHookRedirectsControl : Prop :=
  ∀ s t : State, s.openCallbacks = [] → Memory.wf s.mem = true → step s = .next t →
    let vector := fun a : Word => word ((s.afterRead a).peekValue (a + 1)) (s.peekValue a)
    (∀ c rest, s.inputs = c :: rest →
      match c with
      | .fastclock | .clock true => coreStep { s with inputs := rest } = .next t
      | .clock false | .peek _ | .poke _ _ | .setpatch _ => t.pc = s.pc
      | .irq => t.pc = if s.flag .i then s.pc else vector 0xFFFE
      | .nmi => t.pc = vector 0xFFFA
      | .reset => t.pc = vector 0xFFFC) ∧
    (t.openCallbacks = [] ∨
      ∃ o, t.openCallbacks = [o] ∧ o.target ∈ s.params.traps ∧ hookCalls t.history = o.target :: hookCalls s.history)

end
end

