-- ==== Sys2Proof/Laws/Encoding.lean ====
section
/-! SUPPORT. Bytes and words, and the opcode map read both ways (30_encoding.md R102, R103, R109). -/

namespace Sys2Proof

theorem getLsbD_word (h l : Byte) (j : Nat) :
    (word h l).getLsbD j = if j < 8 then l.getLsbD j else h.getLsbD (j - 8) := by
  unfold word
  rw [BitVec.getLsbD_append]

theorem getLsbD_lo8 (w : Word) (j : Nat) : (lo8 w).getLsbD j = (decide (j < 8) && w.getLsbD j) := by
  simp [lo8]

theorem getLsbD_hi8 (w : Word) (j : Nat) : (hi8 w).getLsbD j = (decide (j < 8) && w.getLsbD (8 + j)) := by
  simp [hi8]

/-- A word is made of its two bytes. -/
@[simp] theorem word_hi8_lo8 (w : Word) : word (hi8 w) (lo8 w) = w := by
  apply BitVec.eq_of_getLsbD_eq
  intro j hj
  rw [getLsbD_word, getLsbD_lo8, getLsbD_hi8]
  split
  · simp [*]
  · have h1 : j - 8 < 8 := by omega
    have h2 : 8 + (j - 8) = j := by omega
    simp [h1, h2]

@[simp] theorem lo8_word (h l : Byte) : lo8 (word h l) = l := by
  apply BitVec.eq_of_getLsbD_eq
  intro j hj
  rw [getLsbD_lo8, getLsbD_word]
  simp [hj]

@[simp] theorem hi8_word (h l : Byte) : hi8 (word h l) = h := by
  apply BitVec.eq_of_getLsbD_eq
  intro j hj
  rw [getLsbD_hi8, getLsbD_word]
  simp [hj]

theorem toNat_word (h l : Byte) : (word h l).toNat = h.toNat * 256 + l.toNat := by
  have hl := l.isLt
  rw [word, BitVec.toNat_append, ← Nat.shiftLeft_add_eq_or_of_lt hl, Nat.shiftLeft_eq]

theorem toNat_lo8 (w : Word) : (lo8 w).toNat = w.toNat % 256 := by
  simp [lo8, BitVec.extractLsb'_toNat]

theorem toNat_hi8 (w : Word) : (hi8 w).toNat = w.toNat / 256 := by
  have := w.isLt
  simp only [hi8, BitVec.extractLsb'_toNat, Nat.shiftRight_eq_div_pow]
  omega

/-- A property of every byte, checked on the 256 numerals. -/
theorem forall_byte {P : Byte → Prop} (h : ∀ n : Fin 256, P (BitVec.ofFin n)) (b : Byte) : P b := h b.toFin

/-- The cell of an opcode byte is an instruction with that opcode byte, whatever the operand bytes: the opcode map is full
and its two directions agree (30_encoding.md R103). -/
theorem opcode_instrOf (op b1 b2 : Byte) : (instrOf op b1 b2).opcode = op := by
  revert op
  refine forall_byte fun n => ?_
  fin_cases n <;> rfl

/-- The mode of a cell does not depend on the operand bytes (30_encoding.md R103). -/
theorem mode_instrOf (op b1 b2 : Byte) : (instrOf op b1 b2).operand.mode = (instrOf op 0 0).operand.mode := by
  revert op
  refine forall_byte fun n => ?_
  fin_cases n <;> rfl

/-- The tier of a cell does not depend on the operand bytes. -/
theorem tier_instrOf (op b1 b2 : Byte) : (instrOf op b1 b2).tier = (instrOf op 0 0).tier := by
  revert op
  refine forall_byte fun n => ?_
  fin_cases n <;> rfl

/-- The identity of a cell does not depend on the operand bytes (30_encoding.md R103). -/
theorem mnemonic_instrOf (op b1 b2 : Byte) : (instrOf op b1 b2).mnemonic = (instrOf op 0 0).mnemonic := by
  revert op
  refine forall_byte fun n => ?_
  fin_cases n <;> rfl

/-- The operand bytes of a cell are the bytes it is given, as many as its mode has. -/
theorem bytes_instrOf (op b1 b2 : Byte) : (instrOf op b1 b2).operand.bytes = [b1, b2].take (operandCount op) := by
  revert op
  refine forall_byte fun n => ?_
  fin_cases n <;> first
    | rfl
    | (show [lo8 (word b2 b1), hi8 (word b2 b1)] = [b1, b2]; rw [lo8_word, hi8_word])

end Sys2Proof
end

