-- ==== Sys2Proof/Laws/PerInstr.lean ====
section
/-! SUPPORT. The per-instruction family `Rebuild`: the opcode map gives every instruction back from its own opcode byte and
operand bytes (30_encoding.md R102, R104). -/

namespace Sys2Proof.Laws.Rebuild

/-- The cell of `i`'s opcode byte, given `i`'s operand bytes, is `i`. -/
def Statement (i : Instr) : Prop :=
  instrOf i.opcode (i.operand.bytes.getD 0 0) (i.operand.bytes.getD 1 0) = i

theorem brk : Statement .brk := rfl
theorem oraIndx (z : Byte) : Statement (.oraIndx z) := (rfl : instrOf 0x01 z 0 = _)
theorem jam02 : Statement .jam02 := rfl
theorem sloIndx (z : Byte) : Statement (.sloIndx z) := (rfl : instrOf 0x03 z 0 = _)
theorem nopZp04 (z : Byte) : Statement (.nopZp04 z) := (rfl : instrOf 0x04 z 0 = _)
theorem oraZp (z : Byte) : Statement (.oraZp z) := (rfl : instrOf 0x05 z 0 = _)
theorem aslZp (z : Byte) : Statement (.aslZp z) := (rfl : instrOf 0x06 z 0 = _)
theorem sloZp (z : Byte) : Statement (.sloZp z) := (rfl : instrOf 0x07 z 0 = _)
theorem php : Statement .php := rfl
theorem oraImm (v : Byte) : Statement (.oraImm v) := (rfl : instrOf 0x09 v 0 = _)
theorem aslAcc : Statement .aslAcc := rfl
theorem ancImm0B (v : Byte) : Statement (.ancImm0B v) := (rfl : instrOf 0x0B v 0 = _)
theorem nopAbs0C (w : Word) : Statement (.nopAbs0C w) :=
  show instrOf 0x0C (lo8 w) (hi8 w) = .nopAbs0C w from congrArg Instr.nopAbs0C (word_hi8_lo8 w)
theorem oraAbs (w : Word) : Statement (.oraAbs w) :=
  show instrOf 0x0D (lo8 w) (hi8 w) = .oraAbs w from congrArg Instr.oraAbs (word_hi8_lo8 w)
theorem aslAbs (w : Word) : Statement (.aslAbs w) :=
  show instrOf 0x0E (lo8 w) (hi8 w) = .aslAbs w from congrArg Instr.aslAbs (word_hi8_lo8 w)
theorem sloAbs (w : Word) : Statement (.sloAbs w) :=
  show instrOf 0x0F (lo8 w) (hi8 w) = .sloAbs w from congrArg Instr.sloAbs (word_hi8_lo8 w)
theorem bplRel (d : Byte) : Statement (.bplRel d) := (rfl : instrOf 0x10 d 0 = _)
theorem oraIndy (z : Byte) : Statement (.oraIndy z) := (rfl : instrOf 0x11 z 0 = _)
theorem jam12 : Statement .jam12 := rfl
theorem sloIndy (z : Byte) : Statement (.sloIndy z) := (rfl : instrOf 0x13 z 0 = _)
theorem nopZpx14 (z : Byte) : Statement (.nopZpx14 z) := (rfl : instrOf 0x14 z 0 = _)
theorem oraZpx (z : Byte) : Statement (.oraZpx z) := (rfl : instrOf 0x15 z 0 = _)
theorem aslZpx (z : Byte) : Statement (.aslZpx z) := (rfl : instrOf 0x16 z 0 = _)
theorem sloZpx (z : Byte) : Statement (.sloZpx z) := (rfl : instrOf 0x17 z 0 = _)
theorem clc : Statement .clc := rfl
theorem oraAbsy (w : Word) : Statement (.oraAbsy w) :=
  show instrOf 0x19 (lo8 w) (hi8 w) = .oraAbsy w from congrArg Instr.oraAbsy (word_hi8_lo8 w)
theorem nopImp1A : Statement .nopImp1A := rfl
theorem sloAbsy (w : Word) : Statement (.sloAbsy w) :=
  show instrOf 0x1B (lo8 w) (hi8 w) = .sloAbsy w from congrArg Instr.sloAbsy (word_hi8_lo8 w)
theorem nopAbsx1C (w : Word) : Statement (.nopAbsx1C w) :=
  show instrOf 0x1C (lo8 w) (hi8 w) = .nopAbsx1C w from congrArg Instr.nopAbsx1C (word_hi8_lo8 w)
theorem oraAbsx (w : Word) : Statement (.oraAbsx w) :=
  show instrOf 0x1D (lo8 w) (hi8 w) = .oraAbsx w from congrArg Instr.oraAbsx (word_hi8_lo8 w)
theorem aslAbsx (w : Word) : Statement (.aslAbsx w) :=
  show instrOf 0x1E (lo8 w) (hi8 w) = .aslAbsx w from congrArg Instr.aslAbsx (word_hi8_lo8 w)
theorem sloAbsx (w : Word) : Statement (.sloAbsx w) :=
  show instrOf 0x1F (lo8 w) (hi8 w) = .sloAbsx w from congrArg Instr.sloAbsx (word_hi8_lo8 w)
theorem jsrAbs (w : Word) : Statement (.jsrAbs w) :=
  show instrOf 0x20 (lo8 w) (hi8 w) = .jsrAbs w from congrArg Instr.jsrAbs (word_hi8_lo8 w)
theorem andIndx (z : Byte) : Statement (.andIndx z) := (rfl : instrOf 0x21 z 0 = _)
theorem jam22 : Statement .jam22 := rfl
theorem rlaIndx (z : Byte) : Statement (.rlaIndx z) := (rfl : instrOf 0x23 z 0 = _)
theorem bitZp (z : Byte) : Statement (.bitZp z) := (rfl : instrOf 0x24 z 0 = _)
theorem andZp (z : Byte) : Statement (.andZp z) := (rfl : instrOf 0x25 z 0 = _)
theorem rolZp (z : Byte) : Statement (.rolZp z) := (rfl : instrOf 0x26 z 0 = _)
theorem rlaZp (z : Byte) : Statement (.rlaZp z) := (rfl : instrOf 0x27 z 0 = _)
theorem plp : Statement .plp := rfl
theorem andImm (v : Byte) : Statement (.andImm v) := (rfl : instrOf 0x29 v 0 = _)
theorem rolAcc : Statement .rolAcc := rfl
theorem ancImm2B (v : Byte) : Statement (.ancImm2B v) := (rfl : instrOf 0x2B v 0 = _)
theorem bitAbs (w : Word) : Statement (.bitAbs w) :=
  show instrOf 0x2C (lo8 w) (hi8 w) = .bitAbs w from congrArg Instr.bitAbs (word_hi8_lo8 w)
theorem andAbs (w : Word) : Statement (.andAbs w) :=
  show instrOf 0x2D (lo8 w) (hi8 w) = .andAbs w from congrArg Instr.andAbs (word_hi8_lo8 w)
theorem rolAbs (w : Word) : Statement (.rolAbs w) :=
  show instrOf 0x2E (lo8 w) (hi8 w) = .rolAbs w from congrArg Instr.rolAbs (word_hi8_lo8 w)
theorem rlaAbs (w : Word) : Statement (.rlaAbs w) :=
  show instrOf 0x2F (lo8 w) (hi8 w) = .rlaAbs w from congrArg Instr.rlaAbs (word_hi8_lo8 w)
theorem bmiRel (d : Byte) : Statement (.bmiRel d) := (rfl : instrOf 0x30 d 0 = _)
theorem andIndy (z : Byte) : Statement (.andIndy z) := (rfl : instrOf 0x31 z 0 = _)
theorem jam32 : Statement .jam32 := rfl
theorem rlaIndy (z : Byte) : Statement (.rlaIndy z) := (rfl : instrOf 0x33 z 0 = _)
theorem nopZpx34 (z : Byte) : Statement (.nopZpx34 z) := (rfl : instrOf 0x34 z 0 = _)
theorem andZpx (z : Byte) : Statement (.andZpx z) := (rfl : instrOf 0x35 z 0 = _)
theorem rolZpx (z : Byte) : Statement (.rolZpx z) := (rfl : instrOf 0x36 z 0 = _)
theorem rlaZpx (z : Byte) : Statement (.rlaZpx z) := (rfl : instrOf 0x37 z 0 = _)
theorem sec : Statement .sec := rfl
theorem andAbsy (w : Word) : Statement (.andAbsy w) :=
  show instrOf 0x39 (lo8 w) (hi8 w) = .andAbsy w from congrArg Instr.andAbsy (word_hi8_lo8 w)
theorem nopImp3A : Statement .nopImp3A := rfl
theorem rlaAbsy (w : Word) : Statement (.rlaAbsy w) :=
  show instrOf 0x3B (lo8 w) (hi8 w) = .rlaAbsy w from congrArg Instr.rlaAbsy (word_hi8_lo8 w)
theorem nopAbsx3C (w : Word) : Statement (.nopAbsx3C w) :=
  show instrOf 0x3C (lo8 w) (hi8 w) = .nopAbsx3C w from congrArg Instr.nopAbsx3C (word_hi8_lo8 w)
theorem andAbsx (w : Word) : Statement (.andAbsx w) :=
  show instrOf 0x3D (lo8 w) (hi8 w) = .andAbsx w from congrArg Instr.andAbsx (word_hi8_lo8 w)
theorem rolAbsx (w : Word) : Statement (.rolAbsx w) :=
  show instrOf 0x3E (lo8 w) (hi8 w) = .rolAbsx w from congrArg Instr.rolAbsx (word_hi8_lo8 w)
theorem rlaAbsx (w : Word) : Statement (.rlaAbsx w) :=
  show instrOf 0x3F (lo8 w) (hi8 w) = .rlaAbsx w from congrArg Instr.rlaAbsx (word_hi8_lo8 w)
theorem rti : Statement .rti := rfl
theorem eorIndx (z : Byte) : Statement (.eorIndx z) := (rfl : instrOf 0x41 z 0 = _)
theorem jam42 : Statement .jam42 := rfl
theorem sreIndx (z : Byte) : Statement (.sreIndx z) := (rfl : instrOf 0x43 z 0 = _)
theorem nopZp44 (z : Byte) : Statement (.nopZp44 z) := (rfl : instrOf 0x44 z 0 = _)
theorem eorZp (z : Byte) : Statement (.eorZp z) := (rfl : instrOf 0x45 z 0 = _)
theorem lsrZp (z : Byte) : Statement (.lsrZp z) := (rfl : instrOf 0x46 z 0 = _)
theorem sreZp (z : Byte) : Statement (.sreZp z) := (rfl : instrOf 0x47 z 0 = _)
theorem pha : Statement .pha := rfl
theorem eorImm (v : Byte) : Statement (.eorImm v) := (rfl : instrOf 0x49 v 0 = _)
theorem lsrAcc : Statement .lsrAcc := rfl
theorem alrImm (v : Byte) : Statement (.alrImm v) := (rfl : instrOf 0x4B v 0 = _)
theorem jmpAbs (w : Word) : Statement (.jmpAbs w) :=
  show instrOf 0x4C (lo8 w) (hi8 w) = .jmpAbs w from congrArg Instr.jmpAbs (word_hi8_lo8 w)
theorem eorAbs (w : Word) : Statement (.eorAbs w) :=
  show instrOf 0x4D (lo8 w) (hi8 w) = .eorAbs w from congrArg Instr.eorAbs (word_hi8_lo8 w)
theorem lsrAbs (w : Word) : Statement (.lsrAbs w) :=
  show instrOf 0x4E (lo8 w) (hi8 w) = .lsrAbs w from congrArg Instr.lsrAbs (word_hi8_lo8 w)
theorem sreAbs (w : Word) : Statement (.sreAbs w) :=
  show instrOf 0x4F (lo8 w) (hi8 w) = .sreAbs w from congrArg Instr.sreAbs (word_hi8_lo8 w)
theorem bvcRel (d : Byte) : Statement (.bvcRel d) := (rfl : instrOf 0x50 d 0 = _)
theorem eorIndy (z : Byte) : Statement (.eorIndy z) := (rfl : instrOf 0x51 z 0 = _)
theorem jam52 : Statement .jam52 := rfl
theorem sreIndy (z : Byte) : Statement (.sreIndy z) := (rfl : instrOf 0x53 z 0 = _)
theorem nopZpx54 (z : Byte) : Statement (.nopZpx54 z) := (rfl : instrOf 0x54 z 0 = _)
theorem eorZpx (z : Byte) : Statement (.eorZpx z) := (rfl : instrOf 0x55 z 0 = _)
theorem lsrZpx (z : Byte) : Statement (.lsrZpx z) := (rfl : instrOf 0x56 z 0 = _)
theorem sreZpx (z : Byte) : Statement (.sreZpx z) := (rfl : instrOf 0x57 z 0 = _)
theorem cli : Statement .cli := rfl
theorem eorAbsy (w : Word) : Statement (.eorAbsy w) :=
  show instrOf 0x59 (lo8 w) (hi8 w) = .eorAbsy w from congrArg Instr.eorAbsy (word_hi8_lo8 w)
theorem nopImp5A : Statement .nopImp5A := rfl
theorem sreAbsy (w : Word) : Statement (.sreAbsy w) :=
  show instrOf 0x5B (lo8 w) (hi8 w) = .sreAbsy w from congrArg Instr.sreAbsy (word_hi8_lo8 w)
theorem nopAbsx5C (w : Word) : Statement (.nopAbsx5C w) :=
  show instrOf 0x5C (lo8 w) (hi8 w) = .nopAbsx5C w from congrArg Instr.nopAbsx5C (word_hi8_lo8 w)
theorem eorAbsx (w : Word) : Statement (.eorAbsx w) :=
  show instrOf 0x5D (lo8 w) (hi8 w) = .eorAbsx w from congrArg Instr.eorAbsx (word_hi8_lo8 w)
theorem lsrAbsx (w : Word) : Statement (.lsrAbsx w) :=
  show instrOf 0x5E (lo8 w) (hi8 w) = .lsrAbsx w from congrArg Instr.lsrAbsx (word_hi8_lo8 w)
theorem sreAbsx (w : Word) : Statement (.sreAbsx w) :=
  show instrOf 0x5F (lo8 w) (hi8 w) = .sreAbsx w from congrArg Instr.sreAbsx (word_hi8_lo8 w)
theorem rts : Statement .rts := rfl
theorem adcIndx (z : Byte) : Statement (.adcIndx z) := (rfl : instrOf 0x61 z 0 = _)
theorem jam62 : Statement .jam62 := rfl
theorem rraIndx (z : Byte) : Statement (.rraIndx z) := (rfl : instrOf 0x63 z 0 = _)
theorem nopZp64 (z : Byte) : Statement (.nopZp64 z) := (rfl : instrOf 0x64 z 0 = _)
theorem adcZp (z : Byte) : Statement (.adcZp z) := (rfl : instrOf 0x65 z 0 = _)
theorem rorZp (z : Byte) : Statement (.rorZp z) := (rfl : instrOf 0x66 z 0 = _)
theorem rraZp (z : Byte) : Statement (.rraZp z) := (rfl : instrOf 0x67 z 0 = _)
theorem pla : Statement .pla := rfl
theorem adcImm (v : Byte) : Statement (.adcImm v) := (rfl : instrOf 0x69 v 0 = _)
theorem rorAcc : Statement .rorAcc := rfl
theorem arrImm (v : Byte) : Statement (.arrImm v) := (rfl : instrOf 0x6B v 0 = _)
theorem jmpInd (w : Word) : Statement (.jmpInd w) :=
  show instrOf 0x6C (lo8 w) (hi8 w) = .jmpInd w from congrArg Instr.jmpInd (word_hi8_lo8 w)
theorem adcAbs (w : Word) : Statement (.adcAbs w) :=
  show instrOf 0x6D (lo8 w) (hi8 w) = .adcAbs w from congrArg Instr.adcAbs (word_hi8_lo8 w)
theorem rorAbs (w : Word) : Statement (.rorAbs w) :=
  show instrOf 0x6E (lo8 w) (hi8 w) = .rorAbs w from congrArg Instr.rorAbs (word_hi8_lo8 w)
theorem rraAbs (w : Word) : Statement (.rraAbs w) :=
  show instrOf 0x6F (lo8 w) (hi8 w) = .rraAbs w from congrArg Instr.rraAbs (word_hi8_lo8 w)
theorem bvsRel (d : Byte) : Statement (.bvsRel d) := (rfl : instrOf 0x70 d 0 = _)
theorem adcIndy (z : Byte) : Statement (.adcIndy z) := (rfl : instrOf 0x71 z 0 = _)
theorem jam72 : Statement .jam72 := rfl
theorem rraIndy (z : Byte) : Statement (.rraIndy z) := (rfl : instrOf 0x73 z 0 = _)
theorem nopZpx74 (z : Byte) : Statement (.nopZpx74 z) := (rfl : instrOf 0x74 z 0 = _)
theorem adcZpx (z : Byte) : Statement (.adcZpx z) := (rfl : instrOf 0x75 z 0 = _)
theorem rorZpx (z : Byte) : Statement (.rorZpx z) := (rfl : instrOf 0x76 z 0 = _)
theorem rraZpx (z : Byte) : Statement (.rraZpx z) := (rfl : instrOf 0x77 z 0 = _)
theorem sei : Statement .sei := rfl
theorem adcAbsy (w : Word) : Statement (.adcAbsy w) :=
  show instrOf 0x79 (lo8 w) (hi8 w) = .adcAbsy w from congrArg Instr.adcAbsy (word_hi8_lo8 w)
theorem nopImp7A : Statement .nopImp7A := rfl
theorem rraAbsy (w : Word) : Statement (.rraAbsy w) :=
  show instrOf 0x7B (lo8 w) (hi8 w) = .rraAbsy w from congrArg Instr.rraAbsy (word_hi8_lo8 w)
theorem nopAbsx7C (w : Word) : Statement (.nopAbsx7C w) :=
  show instrOf 0x7C (lo8 w) (hi8 w) = .nopAbsx7C w from congrArg Instr.nopAbsx7C (word_hi8_lo8 w)
theorem adcAbsx (w : Word) : Statement (.adcAbsx w) :=
  show instrOf 0x7D (lo8 w) (hi8 w) = .adcAbsx w from congrArg Instr.adcAbsx (word_hi8_lo8 w)
theorem rorAbsx (w : Word) : Statement (.rorAbsx w) :=
  show instrOf 0x7E (lo8 w) (hi8 w) = .rorAbsx w from congrArg Instr.rorAbsx (word_hi8_lo8 w)
theorem rraAbsx (w : Word) : Statement (.rraAbsx w) :=
  show instrOf 0x7F (lo8 w) (hi8 w) = .rraAbsx w from congrArg Instr.rraAbsx (word_hi8_lo8 w)
theorem nopImm80 (v : Byte) : Statement (.nopImm80 v) := (rfl : instrOf 0x80 v 0 = _)
theorem staIndx (z : Byte) : Statement (.staIndx z) := (rfl : instrOf 0x81 z 0 = _)
theorem nopImm82 (v : Byte) : Statement (.nopImm82 v) := (rfl : instrOf 0x82 v 0 = _)
theorem saxIndx (z : Byte) : Statement (.saxIndx z) := (rfl : instrOf 0x83 z 0 = _)
theorem styZp (z : Byte) : Statement (.styZp z) := (rfl : instrOf 0x84 z 0 = _)
theorem staZp (z : Byte) : Statement (.staZp z) := (rfl : instrOf 0x85 z 0 = _)
theorem stxZp (z : Byte) : Statement (.stxZp z) := (rfl : instrOf 0x86 z 0 = _)
theorem saxZp (z : Byte) : Statement (.saxZp z) := (rfl : instrOf 0x87 z 0 = _)
theorem dey : Statement .dey := rfl
theorem nopImm89 (v : Byte) : Statement (.nopImm89 v) := (rfl : instrOf 0x89 v 0 = _)
theorem txa : Statement .txa := rfl
theorem xaaImm (v : Byte) : Statement (.xaaImm v) := (rfl : instrOf 0x8B v 0 = _)
theorem styAbs (w : Word) : Statement (.styAbs w) :=
  show instrOf 0x8C (lo8 w) (hi8 w) = .styAbs w from congrArg Instr.styAbs (word_hi8_lo8 w)
theorem staAbs (w : Word) : Statement (.staAbs w) :=
  show instrOf 0x8D (lo8 w) (hi8 w) = .staAbs w from congrArg Instr.staAbs (word_hi8_lo8 w)
theorem stxAbs (w : Word) : Statement (.stxAbs w) :=
  show instrOf 0x8E (lo8 w) (hi8 w) = .stxAbs w from congrArg Instr.stxAbs (word_hi8_lo8 w)
theorem saxAbs (w : Word) : Statement (.saxAbs w) :=
  show instrOf 0x8F (lo8 w) (hi8 w) = .saxAbs w from congrArg Instr.saxAbs (word_hi8_lo8 w)
theorem bccRel (d : Byte) : Statement (.bccRel d) := (rfl : instrOf 0x90 d 0 = _)
theorem staIndy (z : Byte) : Statement (.staIndy z) := (rfl : instrOf 0x91 z 0 = _)
theorem jam92 : Statement .jam92 := rfl
theorem shaIndy (z : Byte) : Statement (.shaIndy z) := (rfl : instrOf 0x93 z 0 = _)
theorem styZpx (z : Byte) : Statement (.styZpx z) := (rfl : instrOf 0x94 z 0 = _)
theorem staZpx (z : Byte) : Statement (.staZpx z) := (rfl : instrOf 0x95 z 0 = _)
theorem stxZpy (z : Byte) : Statement (.stxZpy z) := (rfl : instrOf 0x96 z 0 = _)
theorem saxZpy (z : Byte) : Statement (.saxZpy z) := (rfl : instrOf 0x97 z 0 = _)
theorem tya : Statement .tya := rfl
theorem staAbsy (w : Word) : Statement (.staAbsy w) :=
  show instrOf 0x99 (lo8 w) (hi8 w) = .staAbsy w from congrArg Instr.staAbsy (word_hi8_lo8 w)
theorem txs : Statement .txs := rfl
theorem tasAbsy (w : Word) : Statement (.tasAbsy w) :=
  show instrOf 0x9B (lo8 w) (hi8 w) = .tasAbsy w from congrArg Instr.tasAbsy (word_hi8_lo8 w)
theorem shyAbsx (w : Word) : Statement (.shyAbsx w) :=
  show instrOf 0x9C (lo8 w) (hi8 w) = .shyAbsx w from congrArg Instr.shyAbsx (word_hi8_lo8 w)
theorem staAbsx (w : Word) : Statement (.staAbsx w) :=
  show instrOf 0x9D (lo8 w) (hi8 w) = .staAbsx w from congrArg Instr.staAbsx (word_hi8_lo8 w)
theorem shxAbsy (w : Word) : Statement (.shxAbsy w) :=
  show instrOf 0x9E (lo8 w) (hi8 w) = .shxAbsy w from congrArg Instr.shxAbsy (word_hi8_lo8 w)
theorem shaAbsy (w : Word) : Statement (.shaAbsy w) :=
  show instrOf 0x9F (lo8 w) (hi8 w) = .shaAbsy w from congrArg Instr.shaAbsy (word_hi8_lo8 w)
theorem ldyImm (v : Byte) : Statement (.ldyImm v) := (rfl : instrOf 0xA0 v 0 = _)
theorem ldaIndx (z : Byte) : Statement (.ldaIndx z) := (rfl : instrOf 0xA1 z 0 = _)
theorem ldxImm (v : Byte) : Statement (.ldxImm v) := (rfl : instrOf 0xA2 v 0 = _)
theorem laxIndx (z : Byte) : Statement (.laxIndx z) := (rfl : instrOf 0xA3 z 0 = _)
theorem ldyZp (z : Byte) : Statement (.ldyZp z) := (rfl : instrOf 0xA4 z 0 = _)
theorem ldaZp (z : Byte) : Statement (.ldaZp z) := (rfl : instrOf 0xA5 z 0 = _)
theorem ldxZp (z : Byte) : Statement (.ldxZp z) := (rfl : instrOf 0xA6 z 0 = _)
theorem laxZp (z : Byte) : Statement (.laxZp z) := (rfl : instrOf 0xA7 z 0 = _)
theorem tay : Statement .tay := rfl
theorem ldaImm (v : Byte) : Statement (.ldaImm v) := (rfl : instrOf 0xA9 v 0 = _)
theorem tax : Statement .tax := rfl
theorem lxaImm (v : Byte) : Statement (.lxaImm v) := (rfl : instrOf 0xAB v 0 = _)
theorem ldyAbs (w : Word) : Statement (.ldyAbs w) :=
  show instrOf 0xAC (lo8 w) (hi8 w) = .ldyAbs w from congrArg Instr.ldyAbs (word_hi8_lo8 w)
theorem ldaAbs (w : Word) : Statement (.ldaAbs w) :=
  show instrOf 0xAD (lo8 w) (hi8 w) = .ldaAbs w from congrArg Instr.ldaAbs (word_hi8_lo8 w)
theorem ldxAbs (w : Word) : Statement (.ldxAbs w) :=
  show instrOf 0xAE (lo8 w) (hi8 w) = .ldxAbs w from congrArg Instr.ldxAbs (word_hi8_lo8 w)
theorem laxAbs (w : Word) : Statement (.laxAbs w) :=
  show instrOf 0xAF (lo8 w) (hi8 w) = .laxAbs w from congrArg Instr.laxAbs (word_hi8_lo8 w)
theorem bcsRel (d : Byte) : Statement (.bcsRel d) := (rfl : instrOf 0xB0 d 0 = _)
theorem ldaIndy (z : Byte) : Statement (.ldaIndy z) := (rfl : instrOf 0xB1 z 0 = _)
theorem jamB2 : Statement .jamB2 := rfl
theorem laxIndy (z : Byte) : Statement (.laxIndy z) := (rfl : instrOf 0xB3 z 0 = _)
theorem ldyZpx (z : Byte) : Statement (.ldyZpx z) := (rfl : instrOf 0xB4 z 0 = _)
theorem ldaZpx (z : Byte) : Statement (.ldaZpx z) := (rfl : instrOf 0xB5 z 0 = _)
theorem ldxZpy (z : Byte) : Statement (.ldxZpy z) := (rfl : instrOf 0xB6 z 0 = _)
theorem laxZpy (z : Byte) : Statement (.laxZpy z) := (rfl : instrOf 0xB7 z 0 = _)
theorem clv : Statement .clv := rfl
theorem ldaAbsy (w : Word) : Statement (.ldaAbsy w) :=
  show instrOf 0xB9 (lo8 w) (hi8 w) = .ldaAbsy w from congrArg Instr.ldaAbsy (word_hi8_lo8 w)
theorem tsx : Statement .tsx := rfl
theorem lasAbsy (w : Word) : Statement (.lasAbsy w) :=
  show instrOf 0xBB (lo8 w) (hi8 w) = .lasAbsy w from congrArg Instr.lasAbsy (word_hi8_lo8 w)
theorem ldyAbsx (w : Word) : Statement (.ldyAbsx w) :=
  show instrOf 0xBC (lo8 w) (hi8 w) = .ldyAbsx w from congrArg Instr.ldyAbsx (word_hi8_lo8 w)
theorem ldaAbsx (w : Word) : Statement (.ldaAbsx w) :=
  show instrOf 0xBD (lo8 w) (hi8 w) = .ldaAbsx w from congrArg Instr.ldaAbsx (word_hi8_lo8 w)
theorem ldxAbsy (w : Word) : Statement (.ldxAbsy w) :=
  show instrOf 0xBE (lo8 w) (hi8 w) = .ldxAbsy w from congrArg Instr.ldxAbsy (word_hi8_lo8 w)
theorem laxAbsy (w : Word) : Statement (.laxAbsy w) :=
  show instrOf 0xBF (lo8 w) (hi8 w) = .laxAbsy w from congrArg Instr.laxAbsy (word_hi8_lo8 w)
theorem cpyImm (v : Byte) : Statement (.cpyImm v) := (rfl : instrOf 0xC0 v 0 = _)
theorem cmpIndx (z : Byte) : Statement (.cmpIndx z) := (rfl : instrOf 0xC1 z 0 = _)
theorem nopImmC2 (v : Byte) : Statement (.nopImmC2 v) := (rfl : instrOf 0xC2 v 0 = _)
theorem dcpIndx (z : Byte) : Statement (.dcpIndx z) := (rfl : instrOf 0xC3 z 0 = _)
theorem cpyZp (z : Byte) : Statement (.cpyZp z) := (rfl : instrOf 0xC4 z 0 = _)
theorem cmpZp (z : Byte) : Statement (.cmpZp z) := (rfl : instrOf 0xC5 z 0 = _)
theorem decZp (z : Byte) : Statement (.decZp z) := (rfl : instrOf 0xC6 z 0 = _)
theorem dcpZp (z : Byte) : Statement (.dcpZp z) := (rfl : instrOf 0xC7 z 0 = _)
theorem iny : Statement .iny := rfl
theorem cmpImm (v : Byte) : Statement (.cmpImm v) := (rfl : instrOf 0xC9 v 0 = _)
theorem dex : Statement .dex := rfl
theorem axsImm (v : Byte) : Statement (.axsImm v) := (rfl : instrOf 0xCB v 0 = _)
theorem cpyAbs (w : Word) : Statement (.cpyAbs w) :=
  show instrOf 0xCC (lo8 w) (hi8 w) = .cpyAbs w from congrArg Instr.cpyAbs (word_hi8_lo8 w)
theorem cmpAbs (w : Word) : Statement (.cmpAbs w) :=
  show instrOf 0xCD (lo8 w) (hi8 w) = .cmpAbs w from congrArg Instr.cmpAbs (word_hi8_lo8 w)
theorem decAbs (w : Word) : Statement (.decAbs w) :=
  show instrOf 0xCE (lo8 w) (hi8 w) = .decAbs w from congrArg Instr.decAbs (word_hi8_lo8 w)
theorem dcpAbs (w : Word) : Statement (.dcpAbs w) :=
  show instrOf 0xCF (lo8 w) (hi8 w) = .dcpAbs w from congrArg Instr.dcpAbs (word_hi8_lo8 w)
theorem bneRel (d : Byte) : Statement (.bneRel d) := (rfl : instrOf 0xD0 d 0 = _)
theorem cmpIndy (z : Byte) : Statement (.cmpIndy z) := (rfl : instrOf 0xD1 z 0 = _)
theorem jamD2 : Statement .jamD2 := rfl
theorem dcpIndy (z : Byte) : Statement (.dcpIndy z) := (rfl : instrOf 0xD3 z 0 = _)
theorem nopZpxD4 (z : Byte) : Statement (.nopZpxD4 z) := (rfl : instrOf 0xD4 z 0 = _)
theorem cmpZpx (z : Byte) : Statement (.cmpZpx z) := (rfl : instrOf 0xD5 z 0 = _)
theorem decZpx (z : Byte) : Statement (.decZpx z) := (rfl : instrOf 0xD6 z 0 = _)
theorem dcpZpx (z : Byte) : Statement (.dcpZpx z) := (rfl : instrOf 0xD7 z 0 = _)
theorem cld : Statement .cld := rfl
theorem cmpAbsy (w : Word) : Statement (.cmpAbsy w) :=
  show instrOf 0xD9 (lo8 w) (hi8 w) = .cmpAbsy w from congrArg Instr.cmpAbsy (word_hi8_lo8 w)
theorem nopImpDA : Statement .nopImpDA := rfl
theorem dcpAbsy (w : Word) : Statement (.dcpAbsy w) :=
  show instrOf 0xDB (lo8 w) (hi8 w) = .dcpAbsy w from congrArg Instr.dcpAbsy (word_hi8_lo8 w)
theorem nopAbsxDC (w : Word) : Statement (.nopAbsxDC w) :=
  show instrOf 0xDC (lo8 w) (hi8 w) = .nopAbsxDC w from congrArg Instr.nopAbsxDC (word_hi8_lo8 w)
theorem cmpAbsx (w : Word) : Statement (.cmpAbsx w) :=
  show instrOf 0xDD (lo8 w) (hi8 w) = .cmpAbsx w from congrArg Instr.cmpAbsx (word_hi8_lo8 w)
theorem decAbsx (w : Word) : Statement (.decAbsx w) :=
  show instrOf 0xDE (lo8 w) (hi8 w) = .decAbsx w from congrArg Instr.decAbsx (word_hi8_lo8 w)
theorem dcpAbsx (w : Word) : Statement (.dcpAbsx w) :=
  show instrOf 0xDF (lo8 w) (hi8 w) = .dcpAbsx w from congrArg Instr.dcpAbsx (word_hi8_lo8 w)
theorem cpxImm (v : Byte) : Statement (.cpxImm v) := (rfl : instrOf 0xE0 v 0 = _)
theorem sbcIndx (z : Byte) : Statement (.sbcIndx z) := (rfl : instrOf 0xE1 z 0 = _)
theorem nopImmE2 (v : Byte) : Statement (.nopImmE2 v) := (rfl : instrOf 0xE2 v 0 = _)
theorem isbIndx (z : Byte) : Statement (.isbIndx z) := (rfl : instrOf 0xE3 z 0 = _)
theorem cpxZp (z : Byte) : Statement (.cpxZp z) := (rfl : instrOf 0xE4 z 0 = _)
theorem sbcZp (z : Byte) : Statement (.sbcZp z) := (rfl : instrOf 0xE5 z 0 = _)
theorem incZp (z : Byte) : Statement (.incZp z) := (rfl : instrOf 0xE6 z 0 = _)
theorem isbZp (z : Byte) : Statement (.isbZp z) := (rfl : instrOf 0xE7 z 0 = _)
theorem inx : Statement .inx := rfl
theorem sbcImm (v : Byte) : Statement (.sbcImm v) := (rfl : instrOf 0xE9 v 0 = _)
theorem nop : Statement .nop := rfl
theorem sbcImmEB (v : Byte) : Statement (.sbcImmEB v) := (rfl : instrOf 0xEB v 0 = _)
theorem cpxAbs (w : Word) : Statement (.cpxAbs w) :=
  show instrOf 0xEC (lo8 w) (hi8 w) = .cpxAbs w from congrArg Instr.cpxAbs (word_hi8_lo8 w)
theorem sbcAbs (w : Word) : Statement (.sbcAbs w) :=
  show instrOf 0xED (lo8 w) (hi8 w) = .sbcAbs w from congrArg Instr.sbcAbs (word_hi8_lo8 w)
theorem incAbs (w : Word) : Statement (.incAbs w) :=
  show instrOf 0xEE (lo8 w) (hi8 w) = .incAbs w from congrArg Instr.incAbs (word_hi8_lo8 w)
theorem isbAbs (w : Word) : Statement (.isbAbs w) :=
  show instrOf 0xEF (lo8 w) (hi8 w) = .isbAbs w from congrArg Instr.isbAbs (word_hi8_lo8 w)
theorem beqRel (d : Byte) : Statement (.beqRel d) := (rfl : instrOf 0xF0 d 0 = _)
theorem sbcIndy (z : Byte) : Statement (.sbcIndy z) := (rfl : instrOf 0xF1 z 0 = _)
theorem jamF2 : Statement .jamF2 := rfl
theorem isbIndy (z : Byte) : Statement (.isbIndy z) := (rfl : instrOf 0xF3 z 0 = _)
theorem nopZpxF4 (z : Byte) : Statement (.nopZpxF4 z) := (rfl : instrOf 0xF4 z 0 = _)
theorem sbcZpx (z : Byte) : Statement (.sbcZpx z) := (rfl : instrOf 0xF5 z 0 = _)
theorem incZpx (z : Byte) : Statement (.incZpx z) := (rfl : instrOf 0xF6 z 0 = _)
theorem isbZpx (z : Byte) : Statement (.isbZpx z) := (rfl : instrOf 0xF7 z 0 = _)
theorem sed : Statement .sed := rfl
theorem sbcAbsy (w : Word) : Statement (.sbcAbsy w) :=
  show instrOf 0xF9 (lo8 w) (hi8 w) = .sbcAbsy w from congrArg Instr.sbcAbsy (word_hi8_lo8 w)
theorem nopImpFA : Statement .nopImpFA := rfl
theorem isbAbsy (w : Word) : Statement (.isbAbsy w) :=
  show instrOf 0xFB (lo8 w) (hi8 w) = .isbAbsy w from congrArg Instr.isbAbsy (word_hi8_lo8 w)
theorem nopAbsxFC (w : Word) : Statement (.nopAbsxFC w) :=
  show instrOf 0xFC (lo8 w) (hi8 w) = .nopAbsxFC w from congrArg Instr.nopAbsxFC (word_hi8_lo8 w)
theorem sbcAbsx (w : Word) : Statement (.sbcAbsx w) :=
  show instrOf 0xFD (lo8 w) (hi8 w) = .sbcAbsx w from congrArg Instr.sbcAbsx (word_hi8_lo8 w)
theorem incAbsx (w : Word) : Statement (.incAbsx w) :=
  show instrOf 0xFE (lo8 w) (hi8 w) = .incAbsx w from congrArg Instr.incAbsx (word_hi8_lo8 w)
theorem isbAbsx (w : Word) : Statement (.isbAbsx w) :=
  show instrOf 0xFF (lo8 w) (hi8 w) = .isbAbsx w from congrArg Instr.isbAbsx (word_hi8_lo8 w)

end Sys2Proof.Laws.Rebuild

/-- Every instruction is rebuilt from its bytes. -/
theorem Sys2Proof.Laws.rebuild (i : Sys2Proof.Instr) : Sys2Proof.Laws.Rebuild.Statement i := by
  cases i
  case oraIndx => exact Sys2Proof.Laws.Rebuild.oraIndx _
  case sloIndx => exact Sys2Proof.Laws.Rebuild.sloIndx _
  case nopZp04 => exact Sys2Proof.Laws.Rebuild.nopZp04 _
  case oraZp => exact Sys2Proof.Laws.Rebuild.oraZp _
  case aslZp => exact Sys2Proof.Laws.Rebuild.aslZp _
  case sloZp => exact Sys2Proof.Laws.Rebuild.sloZp _
  case oraImm => exact Sys2Proof.Laws.Rebuild.oraImm _
  case ancImm0B => exact Sys2Proof.Laws.Rebuild.ancImm0B _
  case nopAbs0C => exact Sys2Proof.Laws.Rebuild.nopAbs0C _
  case oraAbs => exact Sys2Proof.Laws.Rebuild.oraAbs _
  case aslAbs => exact Sys2Proof.Laws.Rebuild.aslAbs _
  case sloAbs => exact Sys2Proof.Laws.Rebuild.sloAbs _
  case bplRel => exact Sys2Proof.Laws.Rebuild.bplRel _
  case oraIndy => exact Sys2Proof.Laws.Rebuild.oraIndy _
  case sloIndy => exact Sys2Proof.Laws.Rebuild.sloIndy _
  case nopZpx14 => exact Sys2Proof.Laws.Rebuild.nopZpx14 _
  case oraZpx => exact Sys2Proof.Laws.Rebuild.oraZpx _
  case aslZpx => exact Sys2Proof.Laws.Rebuild.aslZpx _
  case sloZpx => exact Sys2Proof.Laws.Rebuild.sloZpx _
  case oraAbsy => exact Sys2Proof.Laws.Rebuild.oraAbsy _
  case sloAbsy => exact Sys2Proof.Laws.Rebuild.sloAbsy _
  case nopAbsx1C => exact Sys2Proof.Laws.Rebuild.nopAbsx1C _
  case oraAbsx => exact Sys2Proof.Laws.Rebuild.oraAbsx _
  case aslAbsx => exact Sys2Proof.Laws.Rebuild.aslAbsx _
  case sloAbsx => exact Sys2Proof.Laws.Rebuild.sloAbsx _
  case jsrAbs => exact Sys2Proof.Laws.Rebuild.jsrAbs _
  case andIndx => exact Sys2Proof.Laws.Rebuild.andIndx _
  case rlaIndx => exact Sys2Proof.Laws.Rebuild.rlaIndx _
  case bitZp => exact Sys2Proof.Laws.Rebuild.bitZp _
  case andZp => exact Sys2Proof.Laws.Rebuild.andZp _
  case rolZp => exact Sys2Proof.Laws.Rebuild.rolZp _
  case rlaZp => exact Sys2Proof.Laws.Rebuild.rlaZp _
  case andImm => exact Sys2Proof.Laws.Rebuild.andImm _
  case ancImm2B => exact Sys2Proof.Laws.Rebuild.ancImm2B _
  case bitAbs => exact Sys2Proof.Laws.Rebuild.bitAbs _
  case andAbs => exact Sys2Proof.Laws.Rebuild.andAbs _
  case rolAbs => exact Sys2Proof.Laws.Rebuild.rolAbs _
  case rlaAbs => exact Sys2Proof.Laws.Rebuild.rlaAbs _
  case bmiRel => exact Sys2Proof.Laws.Rebuild.bmiRel _
  case andIndy => exact Sys2Proof.Laws.Rebuild.andIndy _
  case rlaIndy => exact Sys2Proof.Laws.Rebuild.rlaIndy _
  case nopZpx34 => exact Sys2Proof.Laws.Rebuild.nopZpx34 _
  case andZpx => exact Sys2Proof.Laws.Rebuild.andZpx _
  case rolZpx => exact Sys2Proof.Laws.Rebuild.rolZpx _
  case rlaZpx => exact Sys2Proof.Laws.Rebuild.rlaZpx _
  case andAbsy => exact Sys2Proof.Laws.Rebuild.andAbsy _
  case rlaAbsy => exact Sys2Proof.Laws.Rebuild.rlaAbsy _
  case nopAbsx3C => exact Sys2Proof.Laws.Rebuild.nopAbsx3C _
  case andAbsx => exact Sys2Proof.Laws.Rebuild.andAbsx _
  case rolAbsx => exact Sys2Proof.Laws.Rebuild.rolAbsx _
  case rlaAbsx => exact Sys2Proof.Laws.Rebuild.rlaAbsx _
  case eorIndx => exact Sys2Proof.Laws.Rebuild.eorIndx _
  case sreIndx => exact Sys2Proof.Laws.Rebuild.sreIndx _
  case nopZp44 => exact Sys2Proof.Laws.Rebuild.nopZp44 _
  case eorZp => exact Sys2Proof.Laws.Rebuild.eorZp _
  case lsrZp => exact Sys2Proof.Laws.Rebuild.lsrZp _
  case sreZp => exact Sys2Proof.Laws.Rebuild.sreZp _
  case eorImm => exact Sys2Proof.Laws.Rebuild.eorImm _
  case alrImm => exact Sys2Proof.Laws.Rebuild.alrImm _
  case jmpAbs => exact Sys2Proof.Laws.Rebuild.jmpAbs _
  case eorAbs => exact Sys2Proof.Laws.Rebuild.eorAbs _
  case lsrAbs => exact Sys2Proof.Laws.Rebuild.lsrAbs _
  case sreAbs => exact Sys2Proof.Laws.Rebuild.sreAbs _
  case bvcRel => exact Sys2Proof.Laws.Rebuild.bvcRel _
  case eorIndy => exact Sys2Proof.Laws.Rebuild.eorIndy _
  case sreIndy => exact Sys2Proof.Laws.Rebuild.sreIndy _
  case nopZpx54 => exact Sys2Proof.Laws.Rebuild.nopZpx54 _
  case eorZpx => exact Sys2Proof.Laws.Rebuild.eorZpx _
  case lsrZpx => exact Sys2Proof.Laws.Rebuild.lsrZpx _
  case sreZpx => exact Sys2Proof.Laws.Rebuild.sreZpx _
  case eorAbsy => exact Sys2Proof.Laws.Rebuild.eorAbsy _
  case sreAbsy => exact Sys2Proof.Laws.Rebuild.sreAbsy _
  case nopAbsx5C => exact Sys2Proof.Laws.Rebuild.nopAbsx5C _
  case eorAbsx => exact Sys2Proof.Laws.Rebuild.eorAbsx _
  case lsrAbsx => exact Sys2Proof.Laws.Rebuild.lsrAbsx _
  case sreAbsx => exact Sys2Proof.Laws.Rebuild.sreAbsx _
  case adcIndx => exact Sys2Proof.Laws.Rebuild.adcIndx _
  case rraIndx => exact Sys2Proof.Laws.Rebuild.rraIndx _
  case nopZp64 => exact Sys2Proof.Laws.Rebuild.nopZp64 _
  case adcZp => exact Sys2Proof.Laws.Rebuild.adcZp _
  case rorZp => exact Sys2Proof.Laws.Rebuild.rorZp _
  case rraZp => exact Sys2Proof.Laws.Rebuild.rraZp _
  case adcImm => exact Sys2Proof.Laws.Rebuild.adcImm _
  case arrImm => exact Sys2Proof.Laws.Rebuild.arrImm _
  case jmpInd => exact Sys2Proof.Laws.Rebuild.jmpInd _
  case adcAbs => exact Sys2Proof.Laws.Rebuild.adcAbs _
  case rorAbs => exact Sys2Proof.Laws.Rebuild.rorAbs _
  case rraAbs => exact Sys2Proof.Laws.Rebuild.rraAbs _
  case bvsRel => exact Sys2Proof.Laws.Rebuild.bvsRel _
  case adcIndy => exact Sys2Proof.Laws.Rebuild.adcIndy _
  case rraIndy => exact Sys2Proof.Laws.Rebuild.rraIndy _
  case nopZpx74 => exact Sys2Proof.Laws.Rebuild.nopZpx74 _
  case adcZpx => exact Sys2Proof.Laws.Rebuild.adcZpx _
  case rorZpx => exact Sys2Proof.Laws.Rebuild.rorZpx _
  case rraZpx => exact Sys2Proof.Laws.Rebuild.rraZpx _
  case adcAbsy => exact Sys2Proof.Laws.Rebuild.adcAbsy _
  case rraAbsy => exact Sys2Proof.Laws.Rebuild.rraAbsy _
  case nopAbsx7C => exact Sys2Proof.Laws.Rebuild.nopAbsx7C _
  case adcAbsx => exact Sys2Proof.Laws.Rebuild.adcAbsx _
  case rorAbsx => exact Sys2Proof.Laws.Rebuild.rorAbsx _
  case rraAbsx => exact Sys2Proof.Laws.Rebuild.rraAbsx _
  case nopImm80 => exact Sys2Proof.Laws.Rebuild.nopImm80 _
  case staIndx => exact Sys2Proof.Laws.Rebuild.staIndx _
  case nopImm82 => exact Sys2Proof.Laws.Rebuild.nopImm82 _
  case saxIndx => exact Sys2Proof.Laws.Rebuild.saxIndx _
  case styZp => exact Sys2Proof.Laws.Rebuild.styZp _
  case staZp => exact Sys2Proof.Laws.Rebuild.staZp _
  case stxZp => exact Sys2Proof.Laws.Rebuild.stxZp _
  case saxZp => exact Sys2Proof.Laws.Rebuild.saxZp _
  case nopImm89 => exact Sys2Proof.Laws.Rebuild.nopImm89 _
  case xaaImm => exact Sys2Proof.Laws.Rebuild.xaaImm _
  case styAbs => exact Sys2Proof.Laws.Rebuild.styAbs _
  case staAbs => exact Sys2Proof.Laws.Rebuild.staAbs _
  case stxAbs => exact Sys2Proof.Laws.Rebuild.stxAbs _
  case saxAbs => exact Sys2Proof.Laws.Rebuild.saxAbs _
  case bccRel => exact Sys2Proof.Laws.Rebuild.bccRel _
  case staIndy => exact Sys2Proof.Laws.Rebuild.staIndy _
  case shaIndy => exact Sys2Proof.Laws.Rebuild.shaIndy _
  case styZpx => exact Sys2Proof.Laws.Rebuild.styZpx _
  case staZpx => exact Sys2Proof.Laws.Rebuild.staZpx _
  case stxZpy => exact Sys2Proof.Laws.Rebuild.stxZpy _
  case saxZpy => exact Sys2Proof.Laws.Rebuild.saxZpy _
  case staAbsy => exact Sys2Proof.Laws.Rebuild.staAbsy _
  case tasAbsy => exact Sys2Proof.Laws.Rebuild.tasAbsy _
  case shyAbsx => exact Sys2Proof.Laws.Rebuild.shyAbsx _
  case staAbsx => exact Sys2Proof.Laws.Rebuild.staAbsx _
  case shxAbsy => exact Sys2Proof.Laws.Rebuild.shxAbsy _
  case shaAbsy => exact Sys2Proof.Laws.Rebuild.shaAbsy _
  case ldyImm => exact Sys2Proof.Laws.Rebuild.ldyImm _
  case ldaIndx => exact Sys2Proof.Laws.Rebuild.ldaIndx _
  case ldxImm => exact Sys2Proof.Laws.Rebuild.ldxImm _
  case laxIndx => exact Sys2Proof.Laws.Rebuild.laxIndx _
  case ldyZp => exact Sys2Proof.Laws.Rebuild.ldyZp _
  case ldaZp => exact Sys2Proof.Laws.Rebuild.ldaZp _
  case ldxZp => exact Sys2Proof.Laws.Rebuild.ldxZp _
  case laxZp => exact Sys2Proof.Laws.Rebuild.laxZp _
  case ldaImm => exact Sys2Proof.Laws.Rebuild.ldaImm _
  case lxaImm => exact Sys2Proof.Laws.Rebuild.lxaImm _
  case ldyAbs => exact Sys2Proof.Laws.Rebuild.ldyAbs _
  case ldaAbs => exact Sys2Proof.Laws.Rebuild.ldaAbs _
  case ldxAbs => exact Sys2Proof.Laws.Rebuild.ldxAbs _
  case laxAbs => exact Sys2Proof.Laws.Rebuild.laxAbs _
  case bcsRel => exact Sys2Proof.Laws.Rebuild.bcsRel _
  case ldaIndy => exact Sys2Proof.Laws.Rebuild.ldaIndy _
  case laxIndy => exact Sys2Proof.Laws.Rebuild.laxIndy _
  case ldyZpx => exact Sys2Proof.Laws.Rebuild.ldyZpx _
  case ldaZpx => exact Sys2Proof.Laws.Rebuild.ldaZpx _
  case ldxZpy => exact Sys2Proof.Laws.Rebuild.ldxZpy _
  case laxZpy => exact Sys2Proof.Laws.Rebuild.laxZpy _
  case ldaAbsy => exact Sys2Proof.Laws.Rebuild.ldaAbsy _
  case lasAbsy => exact Sys2Proof.Laws.Rebuild.lasAbsy _
  case ldyAbsx => exact Sys2Proof.Laws.Rebuild.ldyAbsx _
  case ldaAbsx => exact Sys2Proof.Laws.Rebuild.ldaAbsx _
  case ldxAbsy => exact Sys2Proof.Laws.Rebuild.ldxAbsy _
  case laxAbsy => exact Sys2Proof.Laws.Rebuild.laxAbsy _
  case cpyImm => exact Sys2Proof.Laws.Rebuild.cpyImm _
  case cmpIndx => exact Sys2Proof.Laws.Rebuild.cmpIndx _
  case nopImmC2 => exact Sys2Proof.Laws.Rebuild.nopImmC2 _
  case dcpIndx => exact Sys2Proof.Laws.Rebuild.dcpIndx _
  case cpyZp => exact Sys2Proof.Laws.Rebuild.cpyZp _
  case cmpZp => exact Sys2Proof.Laws.Rebuild.cmpZp _
  case decZp => exact Sys2Proof.Laws.Rebuild.decZp _
  case dcpZp => exact Sys2Proof.Laws.Rebuild.dcpZp _
  case cmpImm => exact Sys2Proof.Laws.Rebuild.cmpImm _
  case axsImm => exact Sys2Proof.Laws.Rebuild.axsImm _
  case cpyAbs => exact Sys2Proof.Laws.Rebuild.cpyAbs _
  case cmpAbs => exact Sys2Proof.Laws.Rebuild.cmpAbs _
  case decAbs => exact Sys2Proof.Laws.Rebuild.decAbs _
  case dcpAbs => exact Sys2Proof.Laws.Rebuild.dcpAbs _
  case bneRel => exact Sys2Proof.Laws.Rebuild.bneRel _
  case cmpIndy => exact Sys2Proof.Laws.Rebuild.cmpIndy _
  case dcpIndy => exact Sys2Proof.Laws.Rebuild.dcpIndy _
  case nopZpxD4 => exact Sys2Proof.Laws.Rebuild.nopZpxD4 _
  case cmpZpx => exact Sys2Proof.Laws.Rebuild.cmpZpx _
  case decZpx => exact Sys2Proof.Laws.Rebuild.decZpx _
  case dcpZpx => exact Sys2Proof.Laws.Rebuild.dcpZpx _
  case cmpAbsy => exact Sys2Proof.Laws.Rebuild.cmpAbsy _
  case dcpAbsy => exact Sys2Proof.Laws.Rebuild.dcpAbsy _
  case nopAbsxDC => exact Sys2Proof.Laws.Rebuild.nopAbsxDC _
  case cmpAbsx => exact Sys2Proof.Laws.Rebuild.cmpAbsx _
  case decAbsx => exact Sys2Proof.Laws.Rebuild.decAbsx _
  case dcpAbsx => exact Sys2Proof.Laws.Rebuild.dcpAbsx _
  case cpxImm => exact Sys2Proof.Laws.Rebuild.cpxImm _
  case sbcIndx => exact Sys2Proof.Laws.Rebuild.sbcIndx _
  case nopImmE2 => exact Sys2Proof.Laws.Rebuild.nopImmE2 _
  case isbIndx => exact Sys2Proof.Laws.Rebuild.isbIndx _
  case cpxZp => exact Sys2Proof.Laws.Rebuild.cpxZp _
  case sbcZp => exact Sys2Proof.Laws.Rebuild.sbcZp _
  case incZp => exact Sys2Proof.Laws.Rebuild.incZp _
  case isbZp => exact Sys2Proof.Laws.Rebuild.isbZp _
  case sbcImm => exact Sys2Proof.Laws.Rebuild.sbcImm _
  case sbcImmEB => exact Sys2Proof.Laws.Rebuild.sbcImmEB _
  case cpxAbs => exact Sys2Proof.Laws.Rebuild.cpxAbs _
  case sbcAbs => exact Sys2Proof.Laws.Rebuild.sbcAbs _
  case incAbs => exact Sys2Proof.Laws.Rebuild.incAbs _
  case isbAbs => exact Sys2Proof.Laws.Rebuild.isbAbs _
  case beqRel => exact Sys2Proof.Laws.Rebuild.beqRel _
  case sbcIndy => exact Sys2Proof.Laws.Rebuild.sbcIndy _
  case isbIndy => exact Sys2Proof.Laws.Rebuild.isbIndy _
  case nopZpxF4 => exact Sys2Proof.Laws.Rebuild.nopZpxF4 _
  case sbcZpx => exact Sys2Proof.Laws.Rebuild.sbcZpx _
  case incZpx => exact Sys2Proof.Laws.Rebuild.incZpx _
  case isbZpx => exact Sys2Proof.Laws.Rebuild.isbZpx _
  case sbcAbsy => exact Sys2Proof.Laws.Rebuild.sbcAbsy _
  case isbAbsy => exact Sys2Proof.Laws.Rebuild.isbAbsy _
  case nopAbsxFC => exact Sys2Proof.Laws.Rebuild.nopAbsxFC _
  case sbcAbsx => exact Sys2Proof.Laws.Rebuild.sbcAbsx _
  case incAbsx => exact Sys2Proof.Laws.Rebuild.incAbsx _
  case isbAbsx => exact Sys2Proof.Laws.Rebuild.isbAbsx _
  case brk => exact Sys2Proof.Laws.Rebuild.brk
  case jam02 => exact Sys2Proof.Laws.Rebuild.jam02
  case php => exact Sys2Proof.Laws.Rebuild.php
  case aslAcc => exact Sys2Proof.Laws.Rebuild.aslAcc
  case jam12 => exact Sys2Proof.Laws.Rebuild.jam12
  case clc => exact Sys2Proof.Laws.Rebuild.clc
  case nopImp1A => exact Sys2Proof.Laws.Rebuild.nopImp1A
  case jam22 => exact Sys2Proof.Laws.Rebuild.jam22
  case plp => exact Sys2Proof.Laws.Rebuild.plp
  case rolAcc => exact Sys2Proof.Laws.Rebuild.rolAcc
  case jam32 => exact Sys2Proof.Laws.Rebuild.jam32
  case sec => exact Sys2Proof.Laws.Rebuild.sec
  case nopImp3A => exact Sys2Proof.Laws.Rebuild.nopImp3A
  case rti => exact Sys2Proof.Laws.Rebuild.rti
  case jam42 => exact Sys2Proof.Laws.Rebuild.jam42
  case pha => exact Sys2Proof.Laws.Rebuild.pha
  case lsrAcc => exact Sys2Proof.Laws.Rebuild.lsrAcc
  case jam52 => exact Sys2Proof.Laws.Rebuild.jam52
  case cli => exact Sys2Proof.Laws.Rebuild.cli
  case nopImp5A => exact Sys2Proof.Laws.Rebuild.nopImp5A
  case rts => exact Sys2Proof.Laws.Rebuild.rts
  case jam62 => exact Sys2Proof.Laws.Rebuild.jam62
  case pla => exact Sys2Proof.Laws.Rebuild.pla
  case rorAcc => exact Sys2Proof.Laws.Rebuild.rorAcc
  case jam72 => exact Sys2Proof.Laws.Rebuild.jam72
  case sei => exact Sys2Proof.Laws.Rebuild.sei
  case nopImp7A => exact Sys2Proof.Laws.Rebuild.nopImp7A
  case dey => exact Sys2Proof.Laws.Rebuild.dey
  case txa => exact Sys2Proof.Laws.Rebuild.txa
  case jam92 => exact Sys2Proof.Laws.Rebuild.jam92
  case tya => exact Sys2Proof.Laws.Rebuild.tya
  case txs => exact Sys2Proof.Laws.Rebuild.txs
  case tay => exact Sys2Proof.Laws.Rebuild.tay
  case tax => exact Sys2Proof.Laws.Rebuild.tax
  case jamB2 => exact Sys2Proof.Laws.Rebuild.jamB2
  case clv => exact Sys2Proof.Laws.Rebuild.clv
  case tsx => exact Sys2Proof.Laws.Rebuild.tsx
  case iny => exact Sys2Proof.Laws.Rebuild.iny
  case dex => exact Sys2Proof.Laws.Rebuild.dex
  case jamD2 => exact Sys2Proof.Laws.Rebuild.jamD2
  case cld => exact Sys2Proof.Laws.Rebuild.cld
  case nopImpDA => exact Sys2Proof.Laws.Rebuild.nopImpDA
  case inx => exact Sys2Proof.Laws.Rebuild.inx
  case nop => exact Sys2Proof.Laws.Rebuild.nop
  case jamF2 => exact Sys2Proof.Laws.Rebuild.jamF2
  case sed => exact Sys2Proof.Laws.Rebuild.sed
  case nopImpFA => exact Sys2Proof.Laws.Rebuild.nopImpFA
end

