-- ==== Sys2Proof/Laws/Exec.lean ====
section
/-! SUPPORT. The execute phase by identity: exec is the operation of the instruction's mnemonic on its operand where the
instruction is admitted, and the refusal of its byte where it is not (40_addressing.md R140). -/

namespace Sys2Proof.Machine

/-- The operation of an identity on an operand. The labels of tier T4 have none: the state stays, and nothing runs. -/
def opOf (m : Mnemonic) (o : Operand) (s : State) : State :=
  match m with
  | .lda => ldaOp o s
  | .ldx => ldxOp o s
  | .ldy => ldyOp o s
  | .sta => staOp o s
  | .stx => stxOp o s
  | .sty => styOp o s
  | .tax => taxOp s
  | .tay => tayOp s
  | .txa => txaOp s
  | .tya => tyaOp s
  | .tsx => tsxOp s
  | .txs => txsOp s
  | .adc => adcOp o s
  | .sbc => sbcOp o s
  | .and => andOp o s
  | .ora => oraOp o s
  | .eor => eorOp o s
  | .cmp => cmpOp o s
  | .cpx => cpxOp o s
  | .cpy => cpyOp o s
  | .bit => bitOp o s
  | .inc => incOp o s
  | .dec => decOp o s
  | .inx => inxOp s
  | .iny => inyOp s
  | .dex => dexOp s
  | .dey => deyOp s
  | .asl => aslOp o s
  | .lsr => lsrOp o s
  | .rol => rolOp o s
  | .ror => rorOp o s
  | .bpl => bplOp o s
  | .bmi => bmiOp o s
  | .bvc => bvcOp o s
  | .bvs => bvsOp o s
  | .bcc => bccOp o s
  | .bcs => bcsOp o s
  | .bne => bneOp o s
  | .beq => beqOp o s
  | .jmp => jmpOp o s
  | .jsr => jsrOp o s
  | .rts => rtsOp s
  | .pha => phaOp s
  | .pla => plaOp s
  | .php => phpOp s
  | .plp => plpOp s
  | .clc => clcOp s
  | .sec => secOp s
  | .cli => cliOp s
  | .sei => seiOp s
  | .cld => cldOp s
  | .sed => sedOp s
  | .clv => clvOp s
  | .nop => nopOp o s
  | .brk => brkOp s
  | .rti => rtiOp s
  | .slo => sloOp o s
  | .rla => rlaOp o s
  | .sre => sreOp o s
  | .rra => rraOp o s
  | .sax => saxOp o s
  | .lax => laxOp o s
  | .dcp => dcpOp o s
  | .isb => isbOp o s
  | .jam | .anc | .alr | .arr | .xaa | .lxa | .axs | .sha | .tas | .shy | .shx | .las => s

/-- What exec does, for every instruction. -/
theorem exec_eq (i : Instr) (s : State) :
    exec i s = if i.admitted s.params then .next (opOf i.mnemonic i.operand s) else s.refuse i.opcode i.length := by
  cases i <;> rfl

theorem exec_next {i : Instr} {s t : State} (h : exec i s = .next t) :
    i.admitted s.params = true ∧ t = opOf i.mnemonic i.operand s := by
  rw [exec_eq] at h
  split at h
  · exact ⟨‹_›, by injection h with h; exact h.symm⟩
  · cases h

/-- An instruction of tier T1 or T2 completes. -/
theorem exec_admitted {i : Instr} (s : State) (h : i.tier = .t1 ∨ i.tier = .t2) :
    exec i s = .next (opOf i.mnemonic i.operand s) := by
  rw [exec_eq, if_pos]
  rcases h with h | h <;> simp [Instr.admitted, h]

/-- An instruction is the cell of its opcode byte. -/
theorem eq_instrOf (i : Instr) : ∃ b1 b2, i = instrOf i.opcode b1 b2 :=
  ⟨_, _, (Laws.rebuild i).symm⟩

/-- The identity, mode and tier of an instruction, from its opcode byte. -/
theorem of_opcode {i : Instr} {op : Byte} (h : i.opcode = op) :
    i.mnemonic = (instrOf op 0 0).mnemonic ∧ i.operand.mode = (instrOf op 0 0).operand.mode ∧
      i.tier = (instrOf op 0 0).tier := by
  obtain ⟨b1, b2, hi⟩ := eq_instrOf i
  rw [h] at hi
  rw [hi]
  exact ⟨mnemonic_instrOf op b1 b2, mode_instrOf op b1 b2, tier_instrOf op b1 b2⟩

/-- A fact about identity, mode and tier holds of every instruction if it holds of the 256 cells of the opcode map. -/
theorem forall_instr {P : Mnemonic → Mode → Tier → Prop}
    (h : ∀ n : Fin 256, P (instrOf (BitVec.ofFin n) 0 0).mnemonic (instrOf (BitVec.ofFin n) 0 0).operand.mode
      (instrOf (BitVec.ofFin n) 0 0).tier) (i : Instr) : P i.mnemonic i.operand.mode i.tier := by
  obtain ⟨h1, h2, h3⟩ := of_opcode (i := i) rfl
  rw [h1, h2, h3]
  exact forall_byte (P := fun op => P (instrOf op 0 0).mnemonic (instrOf op 0 0).operand.mode (instrOf op 0 0).tier) h _

end Sys2Proof.Machine
end

