-- ==== Sys2Proof/Laws/Memory.lean ====
section
/-! SUPPORT. The laws of memory: a write keeps the canonical form, a read after a write, and equal reads make equal memories
(20_memory.md R71, R80). -/

namespace Sys2Proof.Machine

/-- Every address of the list is above `k`. -/
def Memory.above (k : Nat) (m : Memory) : Prop := ∀ c ∈ m, k < c.1

theorem wf_cons_iff (c : Host.Cell) (m : Memory) :
    Memory.wf (c :: m) = true ↔
      (c.1 < 65536 ∧ c.2 ≠ Memory.unlisted) ∧ (∀ d, m.head? = some d → c.1 < d.1) ∧ Memory.wf m = true := by
  cases m with
  | nil => simp [Memory.wf]
  | cons d r =>
    simp only [Memory.wf, Bool.and_eq_true, decide_eq_true_eq, List.head?_cons, Option.some.injEq, forall_eq']
    constructor
    · rintro ⟨⟨h1, h2⟩, h3⟩
      refine ⟨⟨?_, h2⟩, h1, h3⟩
      have : d.1 < 65536 := by
        cases r <;> simp only [Memory.wf, Bool.and_eq_true, decide_eq_true_eq] at h3
        · exact h3.1
        · rename_i e r
          have : ∀ (r : Memory) (d e : Host.Cell), Memory.wf (d :: e :: r) = true → d.1 < 65536 := by
            intro r
            induction r with
            | nil =>
              intro d e h
              simp only [Memory.wf, Bool.and_eq_true, decide_eq_true_eq] at h
              omega
            | cons f r ih =>
              intro d e h
              have h' := h
              simp only [Memory.wf, Bool.and_eq_true, decide_eq_true_eq] at h
              have := ih e f (by simpa only [Memory.wf, Bool.and_eq_true, decide_eq_true_eq] using h.2)
              omega
          exact this r d e (by simpa only [Memory.wf, Bool.and_eq_true, decide_eq_true_eq] using h3)
      omega
    · rintro ⟨⟨_, h2⟩, h1, h3⟩
      exact ⟨⟨h1, h2⟩, h3⟩

theorem above_of_wf {c : Host.Cell} {m : Memory} (h : Memory.wf (c :: m) = true) : Memory.above c.1 m := by
  induction m generalizing c with
  | nil => intro d hd; simp at hd
  | cons d r ih =>
    have hc := (wf_cons_iff c (d :: r)).1 h
    have hcd : c.1 < d.1 := hc.2.1 d rfl
    intro e he
    rcases List.mem_cons.1 he with rfl | he
    · exact hcd
    · exact lt_trans hcd (ih hc.2.2 e he)

theorem wf_tail {c : Host.Cell} {m : Memory} (h : Memory.wf (c :: m) = true) : Memory.wf m = true :=
  ((wf_cons_iff c m).1 h).2.2

theorem get_of_above {k : Nat} {m : Memory} (h : Memory.above k m) : Memory.get k m = Memory.unlisted := by
  cases m with
  | nil => rfl
  | cons c r => simp [Memory.get, h c (by simp)]

theorem get_cons_of_ne {k : Nat} {c : Host.Cell} {m : Memory} (h : Memory.wf (c :: m) = true) (hk : k ≠ c.1) :
    Memory.get k (c :: m) = Memory.get k m := by
  by_cases hlt : k < c.1
  · rw [get_of_above (k := k) (m := m) fun d hd => lt_trans hlt (above_of_wf h d hd)]
    simp [Memory.get, hlt]
  · simp [Memory.get, hlt, hk]

theorem wf_cons_of_above {k : Nat} {v : Byte} {m : Memory} (hk : k < 65536) (h : Memory.wf m = true)
    (ha : Memory.above k m) : Memory.wf (Memory.cons k v m) = true := by
  unfold Memory.cons
  split
  · exact h
  · rename_i hv
    refine (wf_cons_iff (k, v) m).2 ⟨⟨hk, hv⟩, ?_, h⟩
    intro d hd
    exact ha d (List.mem_of_mem_head? hd)

/-- Every address of a list after a write is the written one or one of the list. -/
theorem mem_put {k : Nat} {v : Byte} {m : Memory} {c : Host.Cell} (h : c ∈ Memory.put k v m) : c.1 = k ∨ c ∈ m := by
  induction m with
  | nil =>
    simp only [Memory.put, Memory.cons] at h
    split at h <;> simp_all
  | cons d r ih =>
    simp only [Memory.put, Memory.cons] at h
    split at h
    · split at h
      · exact .inr h
      · rcases List.mem_cons.1 h with rfl | h
        · exact .inl rfl
        · exact .inr h
    · split at h
      · split at h
        · exact .inr (List.mem_cons_of_mem _ h)
        · rcases List.mem_cons.1 h with rfl | h
          · exact .inl rfl
          · exact .inr (List.mem_cons_of_mem _ h)
      · rcases List.mem_cons.1 h with rfl | h
        · exact .inr (by simp)
        · rcases ih h with h | h
          · exact .inl h
          · exact .inr (List.mem_cons_of_mem _ h)

theorem wf_put {k : Nat} (hk : k < 65536) (v : Byte) {m : Memory} (h : Memory.wf m = true) :
    Memory.wf (Memory.put k v m) = true := by
  induction m with
  | nil => exact wf_cons_of_above hk h fun d hd => by simp at hd
  | cons c r ih =>
    have ha := above_of_wf h
    simp only [Memory.put]
    split
    · rename_i hlt
      refine wf_cons_of_above hk h fun d hd => ?_
      rcases List.mem_cons.1 hd with rfl | hd
      · exact hlt
      · exact lt_trans hlt (ha d hd)
    · rename_i hge
      split
      · rename_i he
        exact wf_cons_of_above hk (wf_tail h) (he ▸ ha)
      · rename_i hne
        have hc := (wf_cons_iff c r).1 h
        refine (wf_cons_iff c _).2 ⟨hc.1, fun d hd => ?_, ih hc.2.2⟩
        rcases mem_put (List.mem_of_mem_head? hd) with hd | hd
        · omega
        · exact ha d hd

theorem get_put_same {k : Nat} (v : Byte) {m : Memory} (h : Memory.wf m = true) :
    Memory.get k (Memory.put k v m) = v := by
  induction m with
  | nil =>
    simp only [Memory.put, Memory.cons]
    split <;> simp_all [Memory.get]
  | cons c r ih =>
    simp only [Memory.put, Memory.cons]
    split
    · rename_i hlt
      split <;> simp_all [Memory.get]
    · rename_i hge
      split
      · rename_i he
        split
        · rename_i hv
          subst he
          rw [get_of_above (above_of_wf h), hv]
        · simp [Memory.get]
      · rename_i hne
        simp [Memory.get, hge, hne, ih (wf_tail h)]

theorem get_put_other {j k : Nat} (hjk : j ≠ k) (hk : k < 65536) (v : Byte) {m : Memory} (h : Memory.wf m = true) :
    Memory.get j (Memory.put k v m) = Memory.get j m := by
  induction m with
  | nil =>
    simp only [Memory.put, Memory.cons]
    split <;> simp [Memory.get, hjk]
  | cons c r ih =>
    simp only [Memory.put, Memory.cons]
    split
    · rename_i hlt
      split
      · rfl
      · by_cases hj : j < k
        · simp [Memory.get, hj, lt_trans hj hlt]
        · simp [Memory.get, hj, hjk]
    · rename_i hge
      split
      · rename_i he
        have hjc : j ≠ c.1 := he ▸ hjk
        split
        · exact (get_cons_of_ne h hjc).symm
        · rw [get_cons_of_ne h hjc]
          have hw : Memory.wf ((k, v) :: r) = true :=
            (wf_cons_iff _ _).2 ⟨⟨hk, ‹_›⟩, by simpa [he] using ((wf_cons_iff c r).1 h).2.1, wf_tail h⟩
          exact get_cons_of_ne hw hjk
      · rename_i hne
        by_cases hj : j < c.1
        · simp [Memory.get, hj]
        · by_cases hj' : j = c.1
          · simp [Memory.get, hj']
          · simp [Memory.get, hj, hj', ih (wf_tail h)]

/-- A write keeps the canonical form. -/
theorem wf_write (a : Word) (v : Byte) {m : Memory} (h : Memory.wf m = true) : Memory.wf (m.write a v) = true :=
  wf_put a.isLt v h

/-- A read of the written address gives the written byte. -/
theorem read_write_same (a : Word) (v : Byte) {m : Memory} (h : Memory.wf m = true) : (m.write a v).read a = v :=
  get_put_same v h

/-- A read of any other address gives what it gave before. -/
theorem read_write_other {a b : Word} (hab : b ≠ a) (v : Byte) {m : Memory} (h : Memory.wf m = true) :
    (m.write a v).read b = m.read b :=
  get_put_other (fun h => hab (BitVec.eq_of_toNat_eq h)) a.isLt v h

theorem read_write (a b : Word) (v : Byte) {m : Memory} (h : Memory.wf m = true) :
    (m.write a v).read b = if b = a then v else m.read b := by
  split
  · rename_i hab; rw [hab, read_write_same a v h]
  · rename_i hab; exact read_write_other hab v h

/-- Two canonical memories that read alike are the same list. -/
theorem eq_of_get_eq {m n : Memory} (hm : Memory.wf m = true) (hn : Memory.wf n = true)
    (h : ∀ k, k < 65536 → Memory.get k m = Memory.get k n) : m = n := by
  have get_head : ∀ {c : Host.Cell} {r : Memory}, Memory.get c.1 (c :: r) = c.2 := by
    intro c r; simp [Memory.get]
  induction m generalizing n with
  | nil =>
    cases n with
    | nil => rfl
    | cons d r =>
      have hd := ((wf_cons_iff d r).1 hn).1
      have := h d.1 hd.1
      rw [get_head] at this
      exact absurd this.symm hd.2
  | cons c r ih =>
    have hc := ((wf_cons_iff c r).1 hm).1
    cases n with
    | nil =>
      have := h c.1 hc.1
      rw [get_head] at this
      exact absurd this hc.2
    | cons d q =>
      have hd := ((wf_cons_iff d q).1 hn).1
      have e1 := h c.1 hc.1
      have e2 := h d.1 hd.1
      rw [get_head] at e1 e2
      have hcd : c.1 = d.1 := by
        rcases lt_trichotomy c.1 d.1 with hlt | he | hgt
        · simp only [Memory.get, hlt, if_true] at e1
          exact absurd e1 hc.2
        · exact he
        · simp only [Memory.get, hgt, if_true] at e2
          exact absurd e2.symm hd.2
      have e : c = d := Prod.ext hcd (by rw [e1, hcd, get_head])
      subst e
      congr 1
      refine ih (wf_tail hm) (wf_tail hn) fun k hk => ?_
      by_cases hkc : k = c.1
      · rw [hkc, get_of_above (above_of_wf hm), get_of_above (above_of_wf hn)]
      · rw [← get_cons_of_ne hm hkc, ← get_cons_of_ne hn hkc, h k hk]

end Sys2Proof.Machine
end

