-- ==== Sys2Proof/Laws/State.lean ====
section
/-! SUPPORT. One lemma per field per update of the state, each true by definition. -/

namespace Sys2Proof.Machine

/-! ### setA -/

@[simp] theorem State.setA_a (v : Byte) (s : State) : (s.setA v).a = v := rfl
@[simp] theorem State.setA_x (v : Byte) (s : State) : (s.setA v).x = s.x := rfl
@[simp] theorem State.setA_y (v : Byte) (s : State) : (s.setA v).y = s.y := rfl
@[simp] theorem State.setA_sp (v : Byte) (s : State) : (s.setA v).sp = s.sp := rfl
@[simp] theorem State.setA_p (v : Byte) (s : State) : (s.setA v).p = s.p := rfl
@[simp] theorem State.setA_pc (v : Byte) (s : State) : (s.setA v).pc = s.pc := rfl
@[simp] theorem State.setA_opcode (v : Byte) (s : State) : (s.setA v).opcode = s.opcode := rfl
@[simp] theorem State.setA_ea (v : Byte) (s : State) : (s.setA v).ea = s.ea := rfl
@[simp] theorem State.setA_ra (v : Byte) (s : State) : (s.setA v).ra = s.ra := rfl
@[simp] theorem State.setA_debt (v : Byte) (s : State) : (s.setA v).debt = s.debt := rfl
@[simp] theorem State.setA_mem (v : Byte) (s : State) : (s.setA v).mem = s.mem := rfl
@[simp] theorem State.setA_history (v : Byte) (s : State) : (s.setA v).history = s.history := rfl
@[simp] theorem State.setA_params (v : Byte) (s : State) : (s.setA v).params = s.params := rfl
@[simp] theorem State.setA_inputs (v : Byte) (s : State) : (s.setA v).inputs = s.inputs := rfl
@[simp] theorem State.setA_openCallbacks (v : Byte) (s : State) : (s.setA v).openCallbacks = s.openCallbacks := rfl
@[simp] theorem State.setA_callbacks (v : Byte) (s : State) : (s.setA v).callbacks = s.callbacks := rfl
@[simp] theorem State.setA_draws (v : Byte) (s : State) : (s.setA v).draws = s.draws := rfl
@[simp] theorem State.setA_answers (v : Byte) (s : State) : (s.setA v).answers = s.answers := rfl
@[simp] theorem State.setA_envOwns (v : Byte) (k : Word) (s : State) : (s.setA v).envOwns k = s.envOwns k := rfl
@[simp] theorem State.setA_peekValue (v : Byte) (k : Word) (s : State) : (s.setA v).peekValue k = s.peekValue k := rfl

/-! ### setX -/

@[simp] theorem State.setX_a (v : Byte) (s : State) : (s.setX v).a = s.a := rfl
@[simp] theorem State.setX_x (v : Byte) (s : State) : (s.setX v).x = v := rfl
@[simp] theorem State.setX_y (v : Byte) (s : State) : (s.setX v).y = s.y := rfl
@[simp] theorem State.setX_sp (v : Byte) (s : State) : (s.setX v).sp = s.sp := rfl
@[simp] theorem State.setX_p (v : Byte) (s : State) : (s.setX v).p = s.p := rfl
@[simp] theorem State.setX_pc (v : Byte) (s : State) : (s.setX v).pc = s.pc := rfl
@[simp] theorem State.setX_opcode (v : Byte) (s : State) : (s.setX v).opcode = s.opcode := rfl
@[simp] theorem State.setX_ea (v : Byte) (s : State) : (s.setX v).ea = s.ea := rfl
@[simp] theorem State.setX_ra (v : Byte) (s : State) : (s.setX v).ra = s.ra := rfl
@[simp] theorem State.setX_debt (v : Byte) (s : State) : (s.setX v).debt = s.debt := rfl
@[simp] theorem State.setX_mem (v : Byte) (s : State) : (s.setX v).mem = s.mem := rfl
@[simp] theorem State.setX_history (v : Byte) (s : State) : (s.setX v).history = s.history := rfl
@[simp] theorem State.setX_params (v : Byte) (s : State) : (s.setX v).params = s.params := rfl
@[simp] theorem State.setX_inputs (v : Byte) (s : State) : (s.setX v).inputs = s.inputs := rfl
@[simp] theorem State.setX_openCallbacks (v : Byte) (s : State) : (s.setX v).openCallbacks = s.openCallbacks := rfl
@[simp] theorem State.setX_callbacks (v : Byte) (s : State) : (s.setX v).callbacks = s.callbacks := rfl
@[simp] theorem State.setX_draws (v : Byte) (s : State) : (s.setX v).draws = s.draws := rfl
@[simp] theorem State.setX_answers (v : Byte) (s : State) : (s.setX v).answers = s.answers := rfl
@[simp] theorem State.setX_envOwns (v : Byte) (k : Word) (s : State) : (s.setX v).envOwns k = s.envOwns k := rfl
@[simp] theorem State.setX_peekValue (v : Byte) (k : Word) (s : State) : (s.setX v).peekValue k = s.peekValue k := rfl

/-! ### setY -/

@[simp] theorem State.setY_a (v : Byte) (s : State) : (s.setY v).a = s.a := rfl
@[simp] theorem State.setY_x (v : Byte) (s : State) : (s.setY v).x = s.x := rfl
@[simp] theorem State.setY_y (v : Byte) (s : State) : (s.setY v).y = v := rfl
@[simp] theorem State.setY_sp (v : Byte) (s : State) : (s.setY v).sp = s.sp := rfl
@[simp] theorem State.setY_p (v : Byte) (s : State) : (s.setY v).p = s.p := rfl
@[simp] theorem State.setY_pc (v : Byte) (s : State) : (s.setY v).pc = s.pc := rfl
@[simp] theorem State.setY_opcode (v : Byte) (s : State) : (s.setY v).opcode = s.opcode := rfl
@[simp] theorem State.setY_ea (v : Byte) (s : State) : (s.setY v).ea = s.ea := rfl
@[simp] theorem State.setY_ra (v : Byte) (s : State) : (s.setY v).ra = s.ra := rfl
@[simp] theorem State.setY_debt (v : Byte) (s : State) : (s.setY v).debt = s.debt := rfl
@[simp] theorem State.setY_mem (v : Byte) (s : State) : (s.setY v).mem = s.mem := rfl
@[simp] theorem State.setY_history (v : Byte) (s : State) : (s.setY v).history = s.history := rfl
@[simp] theorem State.setY_params (v : Byte) (s : State) : (s.setY v).params = s.params := rfl
@[simp] theorem State.setY_inputs (v : Byte) (s : State) : (s.setY v).inputs = s.inputs := rfl
@[simp] theorem State.setY_openCallbacks (v : Byte) (s : State) : (s.setY v).openCallbacks = s.openCallbacks := rfl
@[simp] theorem State.setY_callbacks (v : Byte) (s : State) : (s.setY v).callbacks = s.callbacks := rfl
@[simp] theorem State.setY_draws (v : Byte) (s : State) : (s.setY v).draws = s.draws := rfl
@[simp] theorem State.setY_answers (v : Byte) (s : State) : (s.setY v).answers = s.answers := rfl
@[simp] theorem State.setY_envOwns (v : Byte) (k : Word) (s : State) : (s.setY v).envOwns k = s.envOwns k := rfl
@[simp] theorem State.setY_peekValue (v : Byte) (k : Word) (s : State) : (s.setY v).peekValue k = s.peekValue k := rfl

/-! ### setSp -/

@[simp] theorem State.setSp_a (v : Byte) (s : State) : (s.setSp v).a = s.a := rfl
@[simp] theorem State.setSp_x (v : Byte) (s : State) : (s.setSp v).x = s.x := rfl
@[simp] theorem State.setSp_y (v : Byte) (s : State) : (s.setSp v).y = s.y := rfl
@[simp] theorem State.setSp_sp (v : Byte) (s : State) : (s.setSp v).sp = v := rfl
@[simp] theorem State.setSp_p (v : Byte) (s : State) : (s.setSp v).p = s.p := rfl
@[simp] theorem State.setSp_pc (v : Byte) (s : State) : (s.setSp v).pc = s.pc := rfl
@[simp] theorem State.setSp_opcode (v : Byte) (s : State) : (s.setSp v).opcode = s.opcode := rfl
@[simp] theorem State.setSp_ea (v : Byte) (s : State) : (s.setSp v).ea = s.ea := rfl
@[simp] theorem State.setSp_ra (v : Byte) (s : State) : (s.setSp v).ra = s.ra := rfl
@[simp] theorem State.setSp_debt (v : Byte) (s : State) : (s.setSp v).debt = s.debt := rfl
@[simp] theorem State.setSp_mem (v : Byte) (s : State) : (s.setSp v).mem = s.mem := rfl
@[simp] theorem State.setSp_history (v : Byte) (s : State) : (s.setSp v).history = s.history := rfl
@[simp] theorem State.setSp_params (v : Byte) (s : State) : (s.setSp v).params = s.params := rfl
@[simp] theorem State.setSp_inputs (v : Byte) (s : State) : (s.setSp v).inputs = s.inputs := rfl
@[simp] theorem State.setSp_openCallbacks (v : Byte) (s : State) : (s.setSp v).openCallbacks = s.openCallbacks := rfl
@[simp] theorem State.setSp_callbacks (v : Byte) (s : State) : (s.setSp v).callbacks = s.callbacks := rfl
@[simp] theorem State.setSp_draws (v : Byte) (s : State) : (s.setSp v).draws = s.draws := rfl
@[simp] theorem State.setSp_answers (v : Byte) (s : State) : (s.setSp v).answers = s.answers := rfl
@[simp] theorem State.setSp_envOwns (v : Byte) (k : Word) (s : State) : (s.setSp v).envOwns k = s.envOwns k := rfl
@[simp] theorem State.setSp_peekValue (v : Byte) (k : Word) (s : State) : (s.setSp v).peekValue k = s.peekValue k := rfl

/-! ### setPc -/

@[simp] theorem State.setPc_a (v : Word) (s : State) : (s.setPc v).a = s.a := rfl
@[simp] theorem State.setPc_x (v : Word) (s : State) : (s.setPc v).x = s.x := rfl
@[simp] theorem State.setPc_y (v : Word) (s : State) : (s.setPc v).y = s.y := rfl
@[simp] theorem State.setPc_sp (v : Word) (s : State) : (s.setPc v).sp = s.sp := rfl
@[simp] theorem State.setPc_p (v : Word) (s : State) : (s.setPc v).p = s.p := rfl
@[simp] theorem State.setPc_pc (v : Word) (s : State) : (s.setPc v).pc = v := rfl
@[simp] theorem State.setPc_opcode (v : Word) (s : State) : (s.setPc v).opcode = s.opcode := rfl
@[simp] theorem State.setPc_ea (v : Word) (s : State) : (s.setPc v).ea = s.ea := rfl
@[simp] theorem State.setPc_ra (v : Word) (s : State) : (s.setPc v).ra = s.ra := rfl
@[simp] theorem State.setPc_debt (v : Word) (s : State) : (s.setPc v).debt = s.debt := rfl
@[simp] theorem State.setPc_mem (v : Word) (s : State) : (s.setPc v).mem = s.mem := rfl
@[simp] theorem State.setPc_history (v : Word) (s : State) : (s.setPc v).history = s.history := rfl
@[simp] theorem State.setPc_params (v : Word) (s : State) : (s.setPc v).params = s.params := rfl
@[simp] theorem State.setPc_inputs (v : Word) (s : State) : (s.setPc v).inputs = s.inputs := rfl
@[simp] theorem State.setPc_openCallbacks (v : Word) (s : State) : (s.setPc v).openCallbacks = s.openCallbacks := rfl
@[simp] theorem State.setPc_callbacks (v : Word) (s : State) : (s.setPc v).callbacks = s.callbacks := rfl
@[simp] theorem State.setPc_draws (v : Word) (s : State) : (s.setPc v).draws = s.draws := rfl
@[simp] theorem State.setPc_answers (v : Word) (s : State) : (s.setPc v).answers = s.answers := rfl
@[simp] theorem State.setPc_envOwns (v : Word) (k : Word) (s : State) : (s.setPc v).envOwns k = s.envOwns k := rfl
@[simp] theorem State.setPc_peekValue (v : Word) (k : Word) (s : State) : (s.setPc v).peekValue k = s.peekValue k := rfl

/-! ### setEa -/

@[simp] theorem State.setEa_a (v : Word) (s : State) : (s.setEa v).a = s.a := rfl
@[simp] theorem State.setEa_x (v : Word) (s : State) : (s.setEa v).x = s.x := rfl
@[simp] theorem State.setEa_y (v : Word) (s : State) : (s.setEa v).y = s.y := rfl
@[simp] theorem State.setEa_sp (v : Word) (s : State) : (s.setEa v).sp = s.sp := rfl
@[simp] theorem State.setEa_p (v : Word) (s : State) : (s.setEa v).p = s.p := rfl
@[simp] theorem State.setEa_pc (v : Word) (s : State) : (s.setEa v).pc = s.pc := rfl
@[simp] theorem State.setEa_opcode (v : Word) (s : State) : (s.setEa v).opcode = s.opcode := rfl
@[simp] theorem State.setEa_ea (v : Word) (s : State) : (s.setEa v).ea = v := rfl
@[simp] theorem State.setEa_ra (v : Word) (s : State) : (s.setEa v).ra = s.ra := rfl
@[simp] theorem State.setEa_debt (v : Word) (s : State) : (s.setEa v).debt = s.debt := rfl
@[simp] theorem State.setEa_mem (v : Word) (s : State) : (s.setEa v).mem = s.mem := rfl
@[simp] theorem State.setEa_history (v : Word) (s : State) : (s.setEa v).history = s.history := rfl
@[simp] theorem State.setEa_params (v : Word) (s : State) : (s.setEa v).params = s.params := rfl
@[simp] theorem State.setEa_inputs (v : Word) (s : State) : (s.setEa v).inputs = s.inputs := rfl
@[simp] theorem State.setEa_openCallbacks (v : Word) (s : State) : (s.setEa v).openCallbacks = s.openCallbacks := rfl
@[simp] theorem State.setEa_callbacks (v : Word) (s : State) : (s.setEa v).callbacks = s.callbacks := rfl
@[simp] theorem State.setEa_draws (v : Word) (s : State) : (s.setEa v).draws = s.draws := rfl
@[simp] theorem State.setEa_answers (v : Word) (s : State) : (s.setEa v).answers = s.answers := rfl
@[simp] theorem State.setEa_envOwns (v : Word) (k : Word) (s : State) : (s.setEa v).envOwns k = s.envOwns k := rfl
@[simp] theorem State.setEa_peekValue (v : Word) (k : Word) (s : State) : (s.setEa v).peekValue k = s.peekValue k := rfl

/-! ### setRa -/

@[simp] theorem State.setRa_a (v : Byte) (s : State) : (s.setRa v).a = s.a := rfl
@[simp] theorem State.setRa_x (v : Byte) (s : State) : (s.setRa v).x = s.x := rfl
@[simp] theorem State.setRa_y (v : Byte) (s : State) : (s.setRa v).y = s.y := rfl
@[simp] theorem State.setRa_sp (v : Byte) (s : State) : (s.setRa v).sp = s.sp := rfl
@[simp] theorem State.setRa_p (v : Byte) (s : State) : (s.setRa v).p = s.p := rfl
@[simp] theorem State.setRa_pc (v : Byte) (s : State) : (s.setRa v).pc = s.pc := rfl
@[simp] theorem State.setRa_opcode (v : Byte) (s : State) : (s.setRa v).opcode = s.opcode := rfl
@[simp] theorem State.setRa_ea (v : Byte) (s : State) : (s.setRa v).ea = s.ea := rfl
@[simp] theorem State.setRa_ra (v : Byte) (s : State) : (s.setRa v).ra = v := rfl
@[simp] theorem State.setRa_debt (v : Byte) (s : State) : (s.setRa v).debt = s.debt := rfl
@[simp] theorem State.setRa_mem (v : Byte) (s : State) : (s.setRa v).mem = s.mem := rfl
@[simp] theorem State.setRa_history (v : Byte) (s : State) : (s.setRa v).history = s.history := rfl
@[simp] theorem State.setRa_params (v : Byte) (s : State) : (s.setRa v).params = s.params := rfl
@[simp] theorem State.setRa_inputs (v : Byte) (s : State) : (s.setRa v).inputs = s.inputs := rfl
@[simp] theorem State.setRa_openCallbacks (v : Byte) (s : State) : (s.setRa v).openCallbacks = s.openCallbacks := rfl
@[simp] theorem State.setRa_callbacks (v : Byte) (s : State) : (s.setRa v).callbacks = s.callbacks := rfl
@[simp] theorem State.setRa_draws (v : Byte) (s : State) : (s.setRa v).draws = s.draws := rfl
@[simp] theorem State.setRa_answers (v : Byte) (s : State) : (s.setRa v).answers = s.answers := rfl
@[simp] theorem State.setRa_envOwns (v : Byte) (k : Word) (s : State) : (s.setRa v).envOwns k = s.envOwns k := rfl
@[simp] theorem State.setRa_peekValue (v : Byte) (k : Word) (s : State) : (s.setRa v).peekValue k = s.peekValue k := rfl

/-! ### setOpcode -/

@[simp] theorem State.setOpcode_a (v : Byte) (s : State) : (s.setOpcode v).a = s.a := rfl
@[simp] theorem State.setOpcode_x (v : Byte) (s : State) : (s.setOpcode v).x = s.x := rfl
@[simp] theorem State.setOpcode_y (v : Byte) (s : State) : (s.setOpcode v).y = s.y := rfl
@[simp] theorem State.setOpcode_sp (v : Byte) (s : State) : (s.setOpcode v).sp = s.sp := rfl
@[simp] theorem State.setOpcode_p (v : Byte) (s : State) : (s.setOpcode v).p = s.p := rfl
@[simp] theorem State.setOpcode_pc (v : Byte) (s : State) : (s.setOpcode v).pc = s.pc := rfl
@[simp] theorem State.setOpcode_opcode (v : Byte) (s : State) : (s.setOpcode v).opcode = v := rfl
@[simp] theorem State.setOpcode_ea (v : Byte) (s : State) : (s.setOpcode v).ea = s.ea := rfl
@[simp] theorem State.setOpcode_ra (v : Byte) (s : State) : (s.setOpcode v).ra = s.ra := rfl
@[simp] theorem State.setOpcode_debt (v : Byte) (s : State) : (s.setOpcode v).debt = s.debt := rfl
@[simp] theorem State.setOpcode_mem (v : Byte) (s : State) : (s.setOpcode v).mem = s.mem := rfl
@[simp] theorem State.setOpcode_history (v : Byte) (s : State) : (s.setOpcode v).history = s.history := rfl
@[simp] theorem State.setOpcode_params (v : Byte) (s : State) : (s.setOpcode v).params = s.params := rfl
@[simp] theorem State.setOpcode_inputs (v : Byte) (s : State) : (s.setOpcode v).inputs = s.inputs := rfl
@[simp] theorem State.setOpcode_openCallbacks (v : Byte) (s : State) : (s.setOpcode v).openCallbacks = s.openCallbacks := rfl
@[simp] theorem State.setOpcode_callbacks (v : Byte) (s : State) : (s.setOpcode v).callbacks = s.callbacks := rfl
@[simp] theorem State.setOpcode_draws (v : Byte) (s : State) : (s.setOpcode v).draws = s.draws := rfl
@[simp] theorem State.setOpcode_answers (v : Byte) (s : State) : (s.setOpcode v).answers = s.answers := rfl
@[simp] theorem State.setOpcode_envOwns (v : Byte) (k : Word) (s : State) : (s.setOpcode v).envOwns k = s.envOwns k := rfl
@[simp] theorem State.setOpcode_peekValue (v : Byte) (k : Word) (s : State) : (s.setOpcode v).peekValue k = s.peekValue k := rfl

/-! ### writeP -/

@[simp] theorem State.writeP_a (v : Byte) (s : State) : (s.writeP v).a = s.a := rfl
@[simp] theorem State.writeP_x (v : Byte) (s : State) : (s.writeP v).x = s.x := rfl
@[simp] theorem State.writeP_y (v : Byte) (s : State) : (s.writeP v).y = s.y := rfl
@[simp] theorem State.writeP_sp (v : Byte) (s : State) : (s.writeP v).sp = s.sp := rfl
@[simp] theorem State.writeP_p (v : Byte) (s : State) : (s.writeP v).p = v ||| constantBit := rfl
@[simp] theorem State.writeP_pc (v : Byte) (s : State) : (s.writeP v).pc = s.pc := rfl
@[simp] theorem State.writeP_opcode (v : Byte) (s : State) : (s.writeP v).opcode = s.opcode := rfl
@[simp] theorem State.writeP_ea (v : Byte) (s : State) : (s.writeP v).ea = s.ea := rfl
@[simp] theorem State.writeP_ra (v : Byte) (s : State) : (s.writeP v).ra = s.ra := rfl
@[simp] theorem State.writeP_debt (v : Byte) (s : State) : (s.writeP v).debt = s.debt := rfl
@[simp] theorem State.writeP_mem (v : Byte) (s : State) : (s.writeP v).mem = s.mem := rfl
@[simp] theorem State.writeP_history (v : Byte) (s : State) : (s.writeP v).history = s.history := rfl
@[simp] theorem State.writeP_params (v : Byte) (s : State) : (s.writeP v).params = s.params := rfl
@[simp] theorem State.writeP_inputs (v : Byte) (s : State) : (s.writeP v).inputs = s.inputs := rfl
@[simp] theorem State.writeP_openCallbacks (v : Byte) (s : State) : (s.writeP v).openCallbacks = s.openCallbacks := rfl
@[simp] theorem State.writeP_callbacks (v : Byte) (s : State) : (s.writeP v).callbacks = s.callbacks := rfl
@[simp] theorem State.writeP_draws (v : Byte) (s : State) : (s.writeP v).draws = s.draws := rfl
@[simp] theorem State.writeP_answers (v : Byte) (s : State) : (s.writeP v).answers = s.answers := rfl
@[simp] theorem State.writeP_envOwns (v : Byte) (k : Word) (s : State) : (s.writeP v).envOwns k = s.envOwns k := rfl
@[simp] theorem State.writeP_peekValue (v : Byte) (k : Word) (s : State) : (s.writeP v).peekValue k = s.peekValue k := rfl

/-! ### record -/

@[simp] theorem State.record_a (e : Event) (s : State) : (s.record e).a = s.a := rfl
@[simp] theorem State.record_x (e : Event) (s : State) : (s.record e).x = s.x := rfl
@[simp] theorem State.record_y (e : Event) (s : State) : (s.record e).y = s.y := rfl
@[simp] theorem State.record_sp (e : Event) (s : State) : (s.record e).sp = s.sp := rfl
@[simp] theorem State.record_p (e : Event) (s : State) : (s.record e).p = s.p := rfl
@[simp] theorem State.record_pc (e : Event) (s : State) : (s.record e).pc = s.pc := rfl
@[simp] theorem State.record_opcode (e : Event) (s : State) : (s.record e).opcode = s.opcode := rfl
@[simp] theorem State.record_ea (e : Event) (s : State) : (s.record e).ea = s.ea := rfl
@[simp] theorem State.record_ra (e : Event) (s : State) : (s.record e).ra = s.ra := rfl
@[simp] theorem State.record_debt (e : Event) (s : State) : (s.record e).debt = s.debt := rfl
@[simp] theorem State.record_mem (e : Event) (s : State) : (s.record e).mem = s.mem := rfl
@[simp] theorem State.record_history (e : Event) (s : State) : (s.record e).history = e :: s.history := rfl
@[simp] theorem State.record_params (e : Event) (s : State) : (s.record e).params = s.params := rfl
@[simp] theorem State.record_inputs (e : Event) (s : State) : (s.record e).inputs = s.inputs := rfl
@[simp] theorem State.record_openCallbacks (e : Event) (s : State) : (s.record e).openCallbacks = s.openCallbacks := rfl
@[simp] theorem State.record_callbacks (e : Event) (s : State) : (s.record e).callbacks = s.callbacks := rfl
@[simp] theorem State.record_draws (e : Event) (s : State) : (s.record e).draws = s.draws := rfl
@[simp] theorem State.record_answers (e : Event) (s : State) : (s.record e).answers = s.answers := rfl
@[simp] theorem State.record_envOwns (e : Event) (k : Word) (s : State) : (s.record e).envOwns k = s.envOwns k := rfl
@[simp] theorem State.record_peekValue (e : Event) (k : Word) (s : State) : (s.record e).peekValue k = s.peekValue k := rfl

/-! ### memWrite -/

@[simp] theorem State.memWrite_a (a : Word) (v : Byte) (s : State) : (s.memWrite a v).a = s.a := rfl
@[simp] theorem State.memWrite_x (a : Word) (v : Byte) (s : State) : (s.memWrite a v).x = s.x := rfl
@[simp] theorem State.memWrite_y (a : Word) (v : Byte) (s : State) : (s.memWrite a v).y = s.y := rfl
@[simp] theorem State.memWrite_sp (a : Word) (v : Byte) (s : State) : (s.memWrite a v).sp = s.sp := rfl
@[simp] theorem State.memWrite_p (a : Word) (v : Byte) (s : State) : (s.memWrite a v).p = s.p := rfl
@[simp] theorem State.memWrite_pc (a : Word) (v : Byte) (s : State) : (s.memWrite a v).pc = s.pc := rfl
@[simp] theorem State.memWrite_opcode (a : Word) (v : Byte) (s : State) : (s.memWrite a v).opcode = s.opcode := rfl
@[simp] theorem State.memWrite_ea (a : Word) (v : Byte) (s : State) : (s.memWrite a v).ea = s.ea := rfl
@[simp] theorem State.memWrite_ra (a : Word) (v : Byte) (s : State) : (s.memWrite a v).ra = s.ra := rfl
@[simp] theorem State.memWrite_debt (a : Word) (v : Byte) (s : State) : (s.memWrite a v).debt = s.debt := rfl
@[simp] theorem State.memWrite_mem (a : Word) (v : Byte) (s : State) : (s.memWrite a v).mem = s.pokeMem a v := rfl
@[simp] theorem State.memWrite_history (a : Word) (v : Byte) (s : State) : (s.memWrite a v).history = .write a v :: s.history := rfl
@[simp] theorem State.memWrite_params (a : Word) (v : Byte) (s : State) : (s.memWrite a v).params = s.params := rfl
@[simp] theorem State.memWrite_inputs (a : Word) (v : Byte) (s : State) : (s.memWrite a v).inputs = s.inputs := rfl
@[simp] theorem State.memWrite_openCallbacks (a : Word) (v : Byte) (s : State) : (s.memWrite a v).openCallbacks = s.openCallbacks := rfl
@[simp] theorem State.memWrite_callbacks (a : Word) (v : Byte) (s : State) : (s.memWrite a v).callbacks = s.callbacks := rfl
@[simp] theorem State.memWrite_draws (a : Word) (v : Byte) (s : State) : (s.memWrite a v).draws = s.draws := rfl
@[simp] theorem State.memWrite_answers (a : Word) (v : Byte) (s : State) : (s.memWrite a v).answers = s.answers := rfl
@[simp] theorem State.memWrite_envOwns (a : Word) (v : Byte) (k : Word) (s : State) : (s.memWrite a v).envOwns k = s.envOwns k := rfl

/-! ### setFlag -/

@[simp] theorem State.setFlag_a (f : Flag) (b : Bool) (s : State) : (s.setFlag f b).a = s.a := rfl
@[simp] theorem State.setFlag_x (f : Flag) (b : Bool) (s : State) : (s.setFlag f b).x = s.x := rfl
@[simp] theorem State.setFlag_y (f : Flag) (b : Bool) (s : State) : (s.setFlag f b).y = s.y := rfl
@[simp] theorem State.setFlag_sp (f : Flag) (b : Bool) (s : State) : (s.setFlag f b).sp = s.sp := rfl
@[simp] theorem State.setFlag_p (f : Flag) (b : Bool) (s : State) : (s.setFlag f b).p = setBit s.p f.bit b ||| constantBit := rfl
@[simp] theorem State.setFlag_pc (f : Flag) (b : Bool) (s : State) : (s.setFlag f b).pc = s.pc := rfl
@[simp] theorem State.setFlag_opcode (f : Flag) (b : Bool) (s : State) : (s.setFlag f b).opcode = s.opcode := rfl
@[simp] theorem State.setFlag_ea (f : Flag) (b : Bool) (s : State) : (s.setFlag f b).ea = s.ea := rfl
@[simp] theorem State.setFlag_ra (f : Flag) (b : Bool) (s : State) : (s.setFlag f b).ra = s.ra := rfl
@[simp] theorem State.setFlag_debt (f : Flag) (b : Bool) (s : State) : (s.setFlag f b).debt = s.debt := rfl
@[simp] theorem State.setFlag_mem (f : Flag) (b : Bool) (s : State) : (s.setFlag f b).mem = s.mem := rfl
@[simp] theorem State.setFlag_history (f : Flag) (b : Bool) (s : State) : (s.setFlag f b).history = s.history := rfl
@[simp] theorem State.setFlag_params (f : Flag) (b : Bool) (s : State) : (s.setFlag f b).params = s.params := rfl
@[simp] theorem State.setFlag_inputs (f : Flag) (b : Bool) (s : State) : (s.setFlag f b).inputs = s.inputs := rfl
@[simp] theorem State.setFlag_openCallbacks (f : Flag) (b : Bool) (s : State) : (s.setFlag f b).openCallbacks = s.openCallbacks := rfl
@[simp] theorem State.setFlag_callbacks (f : Flag) (b : Bool) (s : State) : (s.setFlag f b).callbacks = s.callbacks := rfl
@[simp] theorem State.setFlag_draws (f : Flag) (b : Bool) (s : State) : (s.setFlag f b).draws = s.draws := rfl
@[simp] theorem State.setFlag_answers (f : Flag) (b : Bool) (s : State) : (s.setFlag f b).answers = s.answers := rfl
@[simp] theorem State.setFlag_envOwns (f : Flag) (b : Bool) (k : Word) (s : State) : (s.setFlag f b).envOwns k = s.envOwns k := rfl
@[simp] theorem State.setFlag_peekValue (f : Flag) (b : Bool) (k : Word) (s : State) : (s.setFlag f b).peekValue k = s.peekValue k := rfl

/-! ### setZN: every field but P -/

@[simp] theorem State.setZN_a (r : Byte) (s : State) : (s.setZN r).a = s.a := rfl
@[simp] theorem State.setZN_x (r : Byte) (s : State) : (s.setZN r).x = s.x := rfl
@[simp] theorem State.setZN_y (r : Byte) (s : State) : (s.setZN r).y = s.y := rfl
@[simp] theorem State.setZN_sp (r : Byte) (s : State) : (s.setZN r).sp = s.sp := rfl
@[simp] theorem State.setZN_pc (r : Byte) (s : State) : (s.setZN r).pc = s.pc := rfl
@[simp] theorem State.setZN_opcode (r : Byte) (s : State) : (s.setZN r).opcode = s.opcode := rfl
@[simp] theorem State.setZN_ea (r : Byte) (s : State) : (s.setZN r).ea = s.ea := rfl
@[simp] theorem State.setZN_ra (r : Byte) (s : State) : (s.setZN r).ra = s.ra := rfl
@[simp] theorem State.setZN_debt (r : Byte) (s : State) : (s.setZN r).debt = s.debt := rfl
@[simp] theorem State.setZN_mem (r : Byte) (s : State) : (s.setZN r).mem = s.mem := rfl
@[simp] theorem State.setZN_history (r : Byte) (s : State) : (s.setZN r).history = s.history := rfl
@[simp] theorem State.setZN_params (r : Byte) (s : State) : (s.setZN r).params = s.params := rfl
@[simp] theorem State.setZN_inputs (r : Byte) (s : State) : (s.setZN r).inputs = s.inputs := rfl
@[simp] theorem State.setZN_openCallbacks (r : Byte) (s : State) : (s.setZN r).openCallbacks = s.openCallbacks := rfl
@[simp] theorem State.setZN_callbacks (r : Byte) (s : State) : (s.setZN r).callbacks = s.callbacks := rfl
@[simp] theorem State.setZN_draws (r : Byte) (s : State) : (s.setZN r).draws = s.draws := rfl
@[simp] theorem State.setZN_answers (r : Byte) (s : State) : (s.setZN r).answers = s.answers := rfl
@[simp] theorem State.setZN_envOwns (r : Byte) (k : Word) (s : State) : (s.setZN r).envOwns k = s.envOwns k := rfl
@[simp] theorem State.setZN_peekValue (r : Byte) (k : Word) (s : State) : (s.setZN r).peekValue k = s.peekValue k := rfl

/-! ### compare: every field but P -/

@[simp] theorem State.compare_a (reg m : Byte) (s : State) : (s.compare reg m).a = s.a := rfl
@[simp] theorem State.compare_x (reg m : Byte) (s : State) : (s.compare reg m).x = s.x := rfl
@[simp] theorem State.compare_y (reg m : Byte) (s : State) : (s.compare reg m).y = s.y := rfl
@[simp] theorem State.compare_sp (reg m : Byte) (s : State) : (s.compare reg m).sp = s.sp := rfl
@[simp] theorem State.compare_pc (reg m : Byte) (s : State) : (s.compare reg m).pc = s.pc := rfl
@[simp] theorem State.compare_opcode (reg m : Byte) (s : State) : (s.compare reg m).opcode = s.opcode := rfl
@[simp] theorem State.compare_ea (reg m : Byte) (s : State) : (s.compare reg m).ea = s.ea := rfl
@[simp] theorem State.compare_ra (reg m : Byte) (s : State) : (s.compare reg m).ra = s.ra := rfl
@[simp] theorem State.compare_debt (reg m : Byte) (s : State) : (s.compare reg m).debt = s.debt := rfl
@[simp] theorem State.compare_mem (reg m : Byte) (s : State) : (s.compare reg m).mem = s.mem := rfl
@[simp] theorem State.compare_history (reg m : Byte) (s : State) : (s.compare reg m).history = s.history := rfl
@[simp] theorem State.compare_params (reg m : Byte) (s : State) : (s.compare reg m).params = s.params := rfl
@[simp] theorem State.compare_inputs (reg m : Byte) (s : State) : (s.compare reg m).inputs = s.inputs := rfl
@[simp] theorem State.compare_openCallbacks (reg m : Byte) (s : State) : (s.compare reg m).openCallbacks = s.openCallbacks := rfl
@[simp] theorem State.compare_callbacks (reg m : Byte) (s : State) : (s.compare reg m).callbacks = s.callbacks := rfl
@[simp] theorem State.compare_draws (reg m : Byte) (s : State) : (s.compare reg m).draws = s.draws := rfl
@[simp] theorem State.compare_answers (reg m : Byte) (s : State) : (s.compare reg m).answers = s.answers := rfl
@[simp] theorem State.compare_envOwns (reg m : Byte) (k : Word) (s : State) : (s.compare reg m).envOwns k = s.envOwns k := rfl
@[simp] theorem State.compare_peekValue (reg m : Byte) (k : Word) (s : State) : (s.compare reg m).peekValue k = s.peekValue k := rfl

/-! ### bitTest: every field but P -/

@[simp] theorem State.bitTest_a (m : Byte) (s : State) : (s.bitTest m).a = s.a := rfl
@[simp] theorem State.bitTest_x (m : Byte) (s : State) : (s.bitTest m).x = s.x := rfl
@[simp] theorem State.bitTest_y (m : Byte) (s : State) : (s.bitTest m).y = s.y := rfl
@[simp] theorem State.bitTest_sp (m : Byte) (s : State) : (s.bitTest m).sp = s.sp := rfl
@[simp] theorem State.bitTest_pc (m : Byte) (s : State) : (s.bitTest m).pc = s.pc := rfl
@[simp] theorem State.bitTest_opcode (m : Byte) (s : State) : (s.bitTest m).opcode = s.opcode := rfl
@[simp] theorem State.bitTest_ea (m : Byte) (s : State) : (s.bitTest m).ea = s.ea := rfl
@[simp] theorem State.bitTest_ra (m : Byte) (s : State) : (s.bitTest m).ra = s.ra := rfl
@[simp] theorem State.bitTest_debt (m : Byte) (s : State) : (s.bitTest m).debt = s.debt := rfl
@[simp] theorem State.bitTest_mem (m : Byte) (s : State) : (s.bitTest m).mem = s.mem := rfl
@[simp] theorem State.bitTest_history (m : Byte) (s : State) : (s.bitTest m).history = s.history := rfl
@[simp] theorem State.bitTest_params (m : Byte) (s : State) : (s.bitTest m).params = s.params := rfl
@[simp] theorem State.bitTest_inputs (m : Byte) (s : State) : (s.bitTest m).inputs = s.inputs := rfl
@[simp] theorem State.bitTest_openCallbacks (m : Byte) (s : State) : (s.bitTest m).openCallbacks = s.openCallbacks := rfl
@[simp] theorem State.bitTest_callbacks (m : Byte) (s : State) : (s.bitTest m).callbacks = s.callbacks := rfl
@[simp] theorem State.bitTest_draws (m : Byte) (s : State) : (s.bitTest m).draws = s.draws := rfl
@[simp] theorem State.bitTest_answers (m : Byte) (s : State) : (s.bitTest m).answers = s.answers := rfl
@[simp] theorem State.bitTest_envOwns (m : Byte) (k : Word) (s : State) : (s.bitTest m).envOwns k = s.envOwns k := rfl
@[simp] theorem State.bitTest_peekValue (m : Byte) (k : Word) (s : State) : (s.bitTest m).peekValue k = s.peekValue k := rfl

/-! ### shiftFlags: every field but P -/

@[simp] theorem State.shiftFlags_a (q : ShiftResult) (s : State) : (s.shiftFlags q).a = s.a := rfl
@[simp] theorem State.shiftFlags_x (q : ShiftResult) (s : State) : (s.shiftFlags q).x = s.x := rfl
@[simp] theorem State.shiftFlags_y (q : ShiftResult) (s : State) : (s.shiftFlags q).y = s.y := rfl
@[simp] theorem State.shiftFlags_sp (q : ShiftResult) (s : State) : (s.shiftFlags q).sp = s.sp := rfl
@[simp] theorem State.shiftFlags_pc (q : ShiftResult) (s : State) : (s.shiftFlags q).pc = s.pc := rfl
@[simp] theorem State.shiftFlags_opcode (q : ShiftResult) (s : State) : (s.shiftFlags q).opcode = s.opcode := rfl
@[simp] theorem State.shiftFlags_ea (q : ShiftResult) (s : State) : (s.shiftFlags q).ea = s.ea := rfl
@[simp] theorem State.shiftFlags_ra (q : ShiftResult) (s : State) : (s.shiftFlags q).ra = s.ra := rfl
@[simp] theorem State.shiftFlags_debt (q : ShiftResult) (s : State) : (s.shiftFlags q).debt = s.debt := rfl
@[simp] theorem State.shiftFlags_mem (q : ShiftResult) (s : State) : (s.shiftFlags q).mem = s.mem := rfl
@[simp] theorem State.shiftFlags_history (q : ShiftResult) (s : State) : (s.shiftFlags q).history = s.history := rfl
@[simp] theorem State.shiftFlags_params (q : ShiftResult) (s : State) : (s.shiftFlags q).params = s.params := rfl
@[simp] theorem State.shiftFlags_inputs (q : ShiftResult) (s : State) : (s.shiftFlags q).inputs = s.inputs := rfl
@[simp] theorem State.shiftFlags_openCallbacks (q : ShiftResult) (s : State) : (s.shiftFlags q).openCallbacks = s.openCallbacks := rfl
@[simp] theorem State.shiftFlags_callbacks (q : ShiftResult) (s : State) : (s.shiftFlags q).callbacks = s.callbacks := rfl
@[simp] theorem State.shiftFlags_draws (q : ShiftResult) (s : State) : (s.shiftFlags q).draws = s.draws := rfl
@[simp] theorem State.shiftFlags_answers (q : ShiftResult) (s : State) : (s.shiftFlags q).answers = s.answers := rfl
@[simp] theorem State.shiftFlags_envOwns (q : ShiftResult) (k : Word) (s : State) : (s.shiftFlags q).envOwns k = s.envOwns k := rfl
@[simp] theorem State.shiftFlags_peekValue (q : ShiftResult) (k : Word) (s : State) : (s.shiftFlags q).peekValue k = s.peekValue k := rfl

/-! ### applyAlu: every field but P -/

@[simp] theorem State.applyAlu_a (q : AluResult) (s : State) : (s.applyAlu q).a = q.r := rfl
@[simp] theorem State.applyAlu_x (q : AluResult) (s : State) : (s.applyAlu q).x = s.x := rfl
@[simp] theorem State.applyAlu_y (q : AluResult) (s : State) : (s.applyAlu q).y = s.y := rfl
@[simp] theorem State.applyAlu_sp (q : AluResult) (s : State) : (s.applyAlu q).sp = s.sp := rfl
@[simp] theorem State.applyAlu_pc (q : AluResult) (s : State) : (s.applyAlu q).pc = s.pc := rfl
@[simp] theorem State.applyAlu_opcode (q : AluResult) (s : State) : (s.applyAlu q).opcode = s.opcode := rfl
@[simp] theorem State.applyAlu_ea (q : AluResult) (s : State) : (s.applyAlu q).ea = s.ea := rfl
@[simp] theorem State.applyAlu_ra (q : AluResult) (s : State) : (s.applyAlu q).ra = s.ra := rfl
@[simp] theorem State.applyAlu_debt (q : AluResult) (s : State) : (s.applyAlu q).debt = s.debt := rfl
@[simp] theorem State.applyAlu_mem (q : AluResult) (s : State) : (s.applyAlu q).mem = s.mem := rfl
@[simp] theorem State.applyAlu_history (q : AluResult) (s : State) : (s.applyAlu q).history = s.history := rfl
@[simp] theorem State.applyAlu_params (q : AluResult) (s : State) : (s.applyAlu q).params = s.params := rfl
@[simp] theorem State.applyAlu_inputs (q : AluResult) (s : State) : (s.applyAlu q).inputs = s.inputs := rfl
@[simp] theorem State.applyAlu_openCallbacks (q : AluResult) (s : State) : (s.applyAlu q).openCallbacks = s.openCallbacks := rfl
@[simp] theorem State.applyAlu_callbacks (q : AluResult) (s : State) : (s.applyAlu q).callbacks = s.callbacks := rfl
@[simp] theorem State.applyAlu_draws (q : AluResult) (s : State) : (s.applyAlu q).draws = s.draws := rfl
@[simp] theorem State.applyAlu_answers (q : AluResult) (s : State) : (s.applyAlu q).answers = s.answers := rfl
@[simp] theorem State.applyAlu_envOwns (q : AluResult) (k : Word) (s : State) : (s.applyAlu q).envOwns k = s.envOwns k := rfl
@[simp] theorem State.applyAlu_peekValue (q : AluResult) (k : Word) (s : State) : (s.applyAlu q).peekValue k = s.peekValue k := rfl

/-! ### push -/

@[simp] theorem State.push_a (v : Byte) (s : State) : (s.push v).a = s.a := rfl
@[simp] theorem State.push_x (v : Byte) (s : State) : (s.push v).x = s.x := rfl
@[simp] theorem State.push_y (v : Byte) (s : State) : (s.push v).y = s.y := rfl
@[simp] theorem State.push_sp (v : Byte) (s : State) : (s.push v).sp = s.sp - 1 := rfl
@[simp] theorem State.push_p (v : Byte) (s : State) : (s.push v).p = s.p := rfl
@[simp] theorem State.push_pc (v : Byte) (s : State) : (s.push v).pc = s.pc := rfl
@[simp] theorem State.push_opcode (v : Byte) (s : State) : (s.push v).opcode = s.opcode := rfl
@[simp] theorem State.push_ea (v : Byte) (s : State) : (s.push v).ea = s.ea := rfl
@[simp] theorem State.push_ra (v : Byte) (s : State) : (s.push v).ra = s.ra := rfl
@[simp] theorem State.push_debt (v : Byte) (s : State) : (s.push v).debt = s.debt := rfl
@[simp] theorem State.push_mem (v : Byte) (s : State) : (s.push v).mem = s.pokeMem (stackAddr s.sp) v := rfl
@[simp] theorem State.push_history (v : Byte) (s : State) : (s.push v).history = .write (stackAddr s.sp) v :: s.history := rfl
@[simp] theorem State.push_params (v : Byte) (s : State) : (s.push v).params = s.params := rfl
@[simp] theorem State.push_inputs (v : Byte) (s : State) : (s.push v).inputs = s.inputs := rfl
@[simp] theorem State.push_openCallbacks (v : Byte) (s : State) : (s.push v).openCallbacks = s.openCallbacks := rfl
@[simp] theorem State.push_callbacks (v : Byte) (s : State) : (s.push v).callbacks = s.callbacks := rfl
@[simp] theorem State.push_draws (v : Byte) (s : State) : (s.push v).draws = s.draws := rfl
@[simp] theorem State.push_answers (v : Byte) (s : State) : (s.push v).answers = s.answers := rfl
@[simp] theorem State.push_envOwns (v : Byte) (k : Word) (s : State) : (s.push v).envOwns k = s.envOwns k := rfl

/-! ### afterRead -/

@[simp] theorem State.afterRead_a (a : Word) (s : State) : (s.afterRead a).a = s.a := rfl
@[simp] theorem State.afterRead_x (a : Word) (s : State) : (s.afterRead a).x = s.x := rfl
@[simp] theorem State.afterRead_y (a : Word) (s : State) : (s.afterRead a).y = s.y := rfl
@[simp] theorem State.afterRead_sp (a : Word) (s : State) : (s.afterRead a).sp = s.sp := rfl
@[simp] theorem State.afterRead_p (a : Word) (s : State) : (s.afterRead a).p = s.p := rfl
@[simp] theorem State.afterRead_pc (a : Word) (s : State) : (s.afterRead a).pc = s.pc := rfl
@[simp] theorem State.afterRead_opcode (a : Word) (s : State) : (s.afterRead a).opcode = s.opcode := rfl
@[simp] theorem State.afterRead_ea (a : Word) (s : State) : (s.afterRead a).ea = s.ea := rfl
@[simp] theorem State.afterRead_ra (a : Word) (s : State) : (s.afterRead a).ra = s.ra := rfl
@[simp] theorem State.afterRead_debt (a : Word) (s : State) : (s.afterRead a).debt = s.debt := rfl
@[simp] theorem State.afterRead_mem (a : Word) (s : State) : (s.afterRead a).mem = s.mem := rfl
@[simp] theorem State.afterRead_history (a : Word) (s : State) : (s.afterRead a).history = .read a (s.peekValue a) :: s.history := rfl
@[simp] theorem State.afterRead_params (a : Word) (s : State) : (s.afterRead a).params = s.params := rfl
@[simp] theorem State.afterRead_inputs (a : Word) (s : State) : (s.afterRead a).inputs = s.inputs := rfl
@[simp] theorem State.afterRead_openCallbacks (a : Word) (s : State) : (s.afterRead a).openCallbacks = s.openCallbacks := rfl
@[simp] theorem State.afterRead_callbacks (a : Word) (s : State) : (s.afterRead a).callbacks = s.callbacks := rfl
@[simp] theorem State.afterRead_answers (a : Word) (s : State) : (s.afterRead a).answers = s.answersLeft a := rfl
@[simp] theorem State.afterRead_draws (a : Word) (s : State) : (s.afterRead a).draws = s.drawsLeft a := rfl
@[simp] theorem State.afterRead_envOwns (a k : Word) (s : State) : (s.afterRead a).envOwns k = s.envOwns k := rfl

/-! ### hostRead -/

@[simp] theorem State.hostRead_a (a : Word) (s : State) : (s.hostRead a).a = s.a := rfl
@[simp] theorem State.hostRead_x (a : Word) (s : State) : (s.hostRead a).x = s.x := rfl
@[simp] theorem State.hostRead_y (a : Word) (s : State) : (s.hostRead a).y = s.y := rfl
@[simp] theorem State.hostRead_sp (a : Word) (s : State) : (s.hostRead a).sp = s.sp := rfl
@[simp] theorem State.hostRead_p (a : Word) (s : State) : (s.hostRead a).p = s.p := rfl
@[simp] theorem State.hostRead_pc (a : Word) (s : State) : (s.hostRead a).pc = s.pc := rfl
@[simp] theorem State.hostRead_opcode (a : Word) (s : State) : (s.hostRead a).opcode = s.opcode := rfl
@[simp] theorem State.hostRead_ea (a : Word) (s : State) : (s.hostRead a).ea = s.ea := rfl
@[simp] theorem State.hostRead_ra (a : Word) (s : State) : (s.hostRead a).ra = s.ra := rfl
@[simp] theorem State.hostRead_debt (a : Word) (s : State) : (s.hostRead a).debt = s.debt := rfl
@[simp] theorem State.hostRead_mem (a : Word) (s : State) : (s.hostRead a).mem = s.mem := rfl
@[simp] theorem State.hostRead_history (a : Word) (s : State) : (s.hostRead a).history = .hostRead a (s.peekValue a) :: s.history := rfl
@[simp] theorem State.hostRead_params (a : Word) (s : State) : (s.hostRead a).params = s.params := rfl
@[simp] theorem State.hostRead_inputs (a : Word) (s : State) : (s.hostRead a).inputs = s.inputs := rfl
@[simp] theorem State.hostRead_openCallbacks (a : Word) (s : State) : (s.hostRead a).openCallbacks = s.openCallbacks := rfl
@[simp] theorem State.hostRead_callbacks (a : Word) (s : State) : (s.hostRead a).callbacks = s.callbacks := rfl
@[simp] theorem State.hostRead_answers (a : Word) (s : State) : (s.hostRead a).answers = s.answersLeft a := rfl
@[simp] theorem State.hostRead_draws (a : Word) (s : State) : (s.hostRead a).draws = s.drawsLeft a := rfl
@[simp] theorem State.hostRead_envOwns (a k : Word) (s : State) : (s.hostRead a).envOwns k = s.envOwns k := rfl

/-! ### hostWrite -/

@[simp] theorem State.hostWrite_a (a : Word) (v : Byte) (s : State) : (s.hostWrite a v).a = s.a := rfl
@[simp] theorem State.hostWrite_x (a : Word) (v : Byte) (s : State) : (s.hostWrite a v).x = s.x := rfl
@[simp] theorem State.hostWrite_y (a : Word) (v : Byte) (s : State) : (s.hostWrite a v).y = s.y := rfl
@[simp] theorem State.hostWrite_sp (a : Word) (v : Byte) (s : State) : (s.hostWrite a v).sp = s.sp := rfl
@[simp] theorem State.hostWrite_p (a : Word) (v : Byte) (s : State) : (s.hostWrite a v).p = s.p := rfl
@[simp] theorem State.hostWrite_pc (a : Word) (v : Byte) (s : State) : (s.hostWrite a v).pc = s.pc := rfl
@[simp] theorem State.hostWrite_opcode (a : Word) (v : Byte) (s : State) : (s.hostWrite a v).opcode = s.opcode := rfl
@[simp] theorem State.hostWrite_ea (a : Word) (v : Byte) (s : State) : (s.hostWrite a v).ea = s.ea := rfl
@[simp] theorem State.hostWrite_ra (a : Word) (v : Byte) (s : State) : (s.hostWrite a v).ra = s.ra := rfl
@[simp] theorem State.hostWrite_debt (a : Word) (v : Byte) (s : State) : (s.hostWrite a v).debt = s.debt := rfl
@[simp] theorem State.hostWrite_mem (a : Word) (v : Byte) (s : State) : (s.hostWrite a v).mem = s.pokeMem a v := rfl
@[simp] theorem State.hostWrite_history (a : Word) (v : Byte) (s : State) : (s.hostWrite a v).history = .hostWrite a v :: s.history := rfl
@[simp] theorem State.hostWrite_params (a : Word) (v : Byte) (s : State) : (s.hostWrite a v).params = s.params := rfl
@[simp] theorem State.hostWrite_inputs (a : Word) (v : Byte) (s : State) : (s.hostWrite a v).inputs = s.inputs := rfl
@[simp] theorem State.hostWrite_openCallbacks (a : Word) (v : Byte) (s : State) : (s.hostWrite a v).openCallbacks = s.openCallbacks := rfl
@[simp] theorem State.hostWrite_callbacks (a : Word) (v : Byte) (s : State) : (s.hostWrite a v).callbacks = s.callbacks := rfl
@[simp] theorem State.hostWrite_answers (a : Word) (v : Byte) (s : State) : (s.hostWrite a v).answers = s.answers := rfl
@[simp] theorem State.hostWrite_draws (a : Word) (v : Byte) (s : State) : (s.hostWrite a v).draws = s.draws := rfl
@[simp] theorem State.hostWrite_envOwns (a : Word) (v : Byte) (k : Word) (s : State) : (s.hostWrite a v).envOwns k = s.envOwns k := rfl

/-! ### openHook -/

@[simp] theorem State.openHook_a (t : Word) (q : Option Word) (s : State) : (s.openHook t q).a = s.a := rfl
@[simp] theorem State.openHook_x (t : Word) (q : Option Word) (s : State) : (s.openHook t q).x = s.x := rfl
@[simp] theorem State.openHook_y (t : Word) (q : Option Word) (s : State) : (s.openHook t q).y = s.y := rfl
@[simp] theorem State.openHook_sp (t : Word) (q : Option Word) (s : State) : (s.openHook t q).sp = s.sp := rfl
@[simp] theorem State.openHook_p (t : Word) (q : Option Word) (s : State) : (s.openHook t q).p = s.p := rfl
@[simp] theorem State.openHook_pc (t : Word) (q : Option Word) (s : State) : (s.openHook t q).pc = s.pc := rfl
@[simp] theorem State.openHook_opcode (t : Word) (q : Option Word) (s : State) : (s.openHook t q).opcode = s.opcode := rfl
@[simp] theorem State.openHook_ea (t : Word) (q : Option Word) (s : State) : (s.openHook t q).ea = s.ea := rfl
@[simp] theorem State.openHook_ra (t : Word) (q : Option Word) (s : State) : (s.openHook t q).ra = s.ra := rfl
@[simp] theorem State.openHook_debt (t : Word) (q : Option Word) (s : State) : (s.openHook t q).debt = s.debt := rfl
@[simp] theorem State.openHook_mem (t : Word) (q : Option Word) (s : State) : (s.openHook t q).mem = s.mem := rfl
@[simp] theorem State.openHook_history (t : Word) (q : Option Word) (s : State) : (s.openHook t q).history = .hook t :: s.history := rfl
@[simp] theorem State.openHook_params (t : Word) (q : Option Word) (s : State) : (s.openHook t q).params = s.params := rfl
@[simp] theorem State.openHook_inputs (t : Word) (q : Option Word) (s : State) : (s.openHook t q).inputs = s.inputs := rfl
@[simp] theorem State.openHook_openCallbacks (t : Word) (q : Option Word) (s : State) : (s.openHook t q).openCallbacks =
    { target := t, push := q, calls := s.nextTrap.calls, outcome := s.nextTrap.outcome } :: s.openCallbacks := rfl
@[simp] theorem State.openHook_callbacks (t : Word) (q : Option Word) (s : State) : (s.openHook t q).callbacks = s.callbacks.tail := rfl
@[simp] theorem State.openHook_answers (t : Word) (q : Option Word) (s : State) : (s.openHook t q).answers = s.answers := rfl
@[simp] theorem State.openHook_draws (t : Word) (q : Option Word) (s : State) : (s.openHook t q).draws = 
    if s.callbacks.isEmpty then s.draws + 1 else s.draws := rfl
@[simp] theorem State.openHook_envOwns (t : Word) (q : Option Word) (k : Word) (s : State) :
    (s.openHook t q).envOwns k = s.envOwns k := rfl

end Sys2Proof.Machine
end

