-- ==== Sys2Proof/Laws/Env.lean ====
section
/-! SUPPORT. The memory environment: what an access can do at an address of plain RAM and at one that `MEM_ENV` answers, and what
reads in sequence use of its answers (20_memory.md R71, R80). -/

namespace Sys2Proof.Machine

/-! ### One access -/

theorem State.peekValue_ram {a : Word} {s : State} (h : s.envOwns a = false) : s.peekValue a = s.mem.read a := by
  simp [State.peekValue, h]

theorem State.wf_pokeMem (a : Word) (v : Byte) {s : State} (h : Memory.wf s.mem = true) :
    Memory.wf (s.pokeMem a v) = true := by
  unfold State.pokeMem
  split
  · exact h
  · exact wf_write a v h

/-- A byte of plain RAM after a write. -/
theorem State.read_pokeMem (a b : Word) (v : Byte) {s : State} (h : Memory.wf s.mem = true) :
    (s.pokeMem a v).read b = if b = a ∧ s.envOwns a = false then v else s.mem.read b := by
  unfold State.pokeMem
  cases ha : s.envOwns a
  · simp [read_write a b v h]
  · simp

/-- Two states with the same memory, parameters and environment read alike. -/
theorem State.peekValue_congr {s t : State} (a : Word) (hq : t.params = s.params) (hm : t.mem = s.mem)
    (hn : t.answers = s.answers) (hd : t.draws = s.draws) : t.peekValue a = s.peekValue a := by
  unfold State.peekValue State.envOwns
  rw [hq, hm, hn, hd]

/-! ### A read and a register write change places -/

theorem State.afterRead_setSp (a : Word) (v : Byte) (s : State) : (s.setSp v).afterRead a = (s.afterRead a).setSp v := rfl
theorem State.afterRead_setPc (a v : Word) (s : State) : (s.setPc v).afterRead a = (s.afterRead a).setPc v := rfl
theorem State.afterRead_setOpcode (a : Word) (v : Byte) (s : State) :
    (s.setOpcode v).afterRead a = (s.afterRead a).setOpcode v := rfl
theorem State.afterRead_writeP (a : Word) (v : Byte) (s : State) : (s.writeP v).afterRead a = (s.afterRead a).writeP v := rfl

/-! ### What the environment's answers are used by -/

theorem AnswersUsed.of_eq {s t : State} (hh : t.history = s.history) (hn : t.answers = s.answers) (hd : t.draws = s.draws) :
    AnswersUsed s t := ⟨[], by simp [hh], by simp [State.answersAfter, State.ownedReads, hn],
      by simp [State.drawsAfter, State.ownedReads, hd]⟩

theorem AnswersUsed.refl (s : State) : AnswersUsed s s := .of_eq rfl rfl rfl

/-- One read at the head of a list of events. -/
theorem State.ownedReads_cons_read (a : Word) (v : Byte) (es : List Event) (s : State) :
    s.ownedReads (.read a v :: es) = s.ownedReads es + if s.envOwns a then 1 else 0 := by
  simp [State.ownedReads, List.countP_cons]

theorem State.ownedReads_append (es es' : List Event) (s : State) :
    s.ownedReads (es ++ es') = s.ownedReads es + s.ownedReads es' := by
  simp [State.ownedReads, List.countP_append]

theorem State.ownedReads_congr {s t : State} (es : List Event) (hq : t.params = s.params) :
    t.ownedReads es = s.ownedReads es := by
  simp only [State.ownedReads, State.envOwns, hq]

theorem State.answersLeft_eq (a : Word) (v : Byte) (s : State) : s.answersLeft a = s.answersAfter [.read a v] := by
  simp only [State.answersLeft, State.answersAfter, State.ownedReads_cons_read]
  cases s.envOwns a <;> simp [State.ownedReads]

theorem State.drawsLeft_eq (a : Word) (v : Byte) (s : State) : s.drawsLeft a = s.drawsAfter [.read a v] := by
  simp only [State.drawsLeft, State.drawsAfter, State.ownedReads_cons_read]
  cases s.envOwns a <;> cases h : s.answers <;> simp [State.ownedReads]

theorem AnswersUsed.read (a : Word) (s : State) : AnswersUsed s (s.afterRead a) :=
  ⟨[.read a (s.peekValue a)], rfl, State.answersLeft_eq a _ s, State.drawsLeft_eq a _ s⟩

theorem AnswersUsed.write (a : Word) (v : Byte) (s : State) : AnswersUsed s (s.memWrite a v) :=
  ⟨[.write a v], rfl, rfl, by simp [State.drawsAfter, State.ownedReads]⟩

theorem AnswersUsed.trans {s t u : State} (h : AnswersUsed s t) (h' : AnswersUsed t u) (hq : t.params = s.params) :
    AnswersUsed s u := by
  obtain ⟨es, hh, hn, hd⟩ := h
  obtain ⟨es', hh', hn', hd'⟩ := h'
  have hl : t.answers.length = s.answers.length - s.ownedReads es := by rw [hn, State.answersAfter, List.length_drop]
  refine ⟨es' ++ es, by rw [hh', hh, List.append_assoc], ?_, ?_⟩
  · rw [hn', State.answersAfter, hn, State.answersAfter, State.answersAfter, State.ownedReads_append,
      State.ownedReads_congr es' hq, List.drop_drop, Nat.add_comm]
  · rw [hd', State.drawsAfter, hd, State.drawsAfter, State.drawsAfter, State.ownedReads_append,
      State.ownedReads_congr es' hq, hl]
    omega

/-! ### Reads in sequence -/

/-- Reads change the history and the environment's answers, and nothing else. -/
theorem State.afterReads_eq (l : List Word) (s : State) :
    s.afterReads l = { s with
      history := s.readEvents l ++ s.history, answers := (s.afterReads l).answers, draws := (s.afterReads l).draws } := by
  induction l generalizing s with
  | nil => rfl
  | cons a l ih =>
    rw [State.afterReads, ih, State.readEvents, List.append_assoc]
    rfl

@[simp] theorem State.afterReads_a (l : List Word) (s : State) : (s.afterReads l).a = s.a := by
  rw [State.afterReads_eq]
@[simp] theorem State.afterReads_x (l : List Word) (s : State) : (s.afterReads l).x = s.x := by
  rw [State.afterReads_eq]
@[simp] theorem State.afterReads_y (l : List Word) (s : State) : (s.afterReads l).y = s.y := by
  rw [State.afterReads_eq]
@[simp] theorem State.afterReads_sp (l : List Word) (s : State) : (s.afterReads l).sp = s.sp := by
  rw [State.afterReads_eq]
@[simp] theorem State.afterReads_p (l : List Word) (s : State) : (s.afterReads l).p = s.p := by
  rw [State.afterReads_eq]
@[simp] theorem State.afterReads_pc (l : List Word) (s : State) : (s.afterReads l).pc = s.pc := by
  rw [State.afterReads_eq]
@[simp] theorem State.afterReads_opcode (l : List Word) (s : State) : (s.afterReads l).opcode = s.opcode := by
  rw [State.afterReads_eq]
@[simp] theorem State.afterReads_ea (l : List Word) (s : State) : (s.afterReads l).ea = s.ea := by
  rw [State.afterReads_eq]
@[simp] theorem State.afterReads_ra (l : List Word) (s : State) : (s.afterReads l).ra = s.ra := by
  rw [State.afterReads_eq]
@[simp] theorem State.afterReads_debt (l : List Word) (s : State) : (s.afterReads l).debt = s.debt := by
  rw [State.afterReads_eq]
@[simp] theorem State.afterReads_mem (l : List Word) (s : State) : (s.afterReads l).mem = s.mem := by
  rw [State.afterReads_eq]
@[simp] theorem State.afterReads_params (l : List Word) (s : State) : (s.afterReads l).params = s.params := by
  rw [State.afterReads_eq]
@[simp] theorem State.afterReads_inputs (l : List Word) (s : State) : (s.afterReads l).inputs = s.inputs := by
  rw [State.afterReads_eq]
@[simp] theorem State.afterReads_openCallbacks (l : List Word) (s : State) : (s.afterReads l).openCallbacks = s.openCallbacks := by
  rw [State.afterReads_eq]
@[simp] theorem State.afterReads_callbacks (l : List Word) (s : State) : (s.afterReads l).callbacks = s.callbacks := by
  rw [State.afterReads_eq]
@[simp] theorem State.afterReads_history (l : List Word) (s : State) :
    (s.afterReads l).history = s.readEvents l ++ s.history := by
  rw [State.afterReads_eq]

theorem AnswersUsed.reads (l : List Word) (s : State) : AnswersUsed s (s.afterReads l) := by
  induction l generalizing s with
  | nil => exact .refl s
  | cons a l ih => exact .trans (.read a s) (ih _) rfl

/-- Reads of plain RAM give the bytes of memory and use no answer. -/
theorem State.reads_ram (l : List Word) (s : State) (h : ∀ a ∈ l, s.envOwns a = false) :
    s.readValues l = l.map s.mem.read ∧ (s.afterReads l).answers = s.answers ∧ (s.afterReads l).draws = s.draws := by
  induction l generalizing s with
  | nil => exact ⟨rfl, rfl, rfl⟩
  | cons a l ih =>
    have ha := h a (by simp)
    obtain ⟨h1, h2, h3⟩ := ih (s.afterRead a) fun b hb => by simpa using h b (List.mem_cons_of_mem _ hb)
    refine ⟨?_, ?_, ?_⟩
    · rw [State.readValues, h1, State.peekValue_ram ha]
      rfl
    · rw [State.afterReads, h2]
      simp [State.answersLeft, ha]
    · rw [State.afterReads, h3]
      simp [State.drawsLeft, ha]

end Sys2Proof.Machine
end

