-- ==== Sys2Proof/Laws/Flags.lean ====
section
/-! SUPPORT. What each write of P does to each flag and to the constant bit (10_state.md R36, R42, R45). -/

namespace Sys2Proof.Machine

theorem Flag.bit_lt (f : Flag) : f.bit < 8 := by cases f <;> decide

theorem Flag.bit_ne_five (f : Flag) : f.bit ≠ 5 := by cases f <;> decide

theorem Flag.bit_inj {f g : Flag} (h : f.bit = g.bit) : f = g := by cases f <;> cases g <;> first | rfl | cases h

theorem getLsbD_one_shl (k j : Nat) (hk : k < 8) : (1#8 <<< k).getLsbD j = decide (j = k) := by
  simp only [BitVec.getLsbD_shiftLeft, BitVec.getLsbD_one]
  rcases lt_trichotomy j k with h | h | h
  · simp [h, ne_of_lt h]
  · subst h; simp [hk]
  · simp [Nat.not_lt.2 (le_of_lt h), ne_of_gt h]; omega

/-- `setBit` sets the bit it names and leaves every other. -/
theorem getLsbD_setBit (v : Byte) (k j : Nat) (b : Bool) (hk : k < 8) :
    (setBit v k b).getLsbD j = if j = k then b else v.getLsbD j := by
  unfold setBit
  cases b
  · rw [if_neg (by decide), BitVec.getLsbD_and, BitVec.getLsbD_not, getLsbD_one_shl k j hk]
    by_cases h : j = k
    · simp [h]
    · by_cases hj : j < 8
      · simp [h, hj]
      · simp [h, BitVec.getLsbD_of_ge v j (Nat.not_lt.1 hj)]
  · rw [if_pos rfl, BitVec.getLsbD_or, getLsbD_one_shl k j hk]
    by_cases h : j = k <;> simp [h]

theorem getLsbD_constantBit (j : Nat) : constantBit.getLsbD j = decide (j = 5) := by
  have := getLsbD_one_shl 5 j (by decide)
  simpa [constantBit] using this

theorem getLsbD_breakBit (j : Nat) : breakBit.getLsbD j = decide (j = 4) := by
  have := getLsbD_one_shl 4 j (by decide)
  simpa [breakBit] using this

/-! ### Flags of the updates that do not write P -/

@[simp] theorem State.flag_setA (v : Byte) (f : Flag) (s : State) : (s.setA v).flag f = s.flag f := rfl
@[simp] theorem State.flag_setX (v : Byte) (f : Flag) (s : State) : (s.setX v).flag f = s.flag f := rfl
@[simp] theorem State.flag_setY (v : Byte) (f : Flag) (s : State) : (s.setY v).flag f = s.flag f := rfl
@[simp] theorem State.flag_setSp (v : Byte) (f : Flag) (s : State) : (s.setSp v).flag f = s.flag f := rfl
@[simp] theorem State.flag_setPc (v : Word) (f : Flag) (s : State) : (s.setPc v).flag f = s.flag f := rfl
@[simp] theorem State.flag_setEa (v : Word) (f : Flag) (s : State) : (s.setEa v).flag f = s.flag f := rfl
@[simp] theorem State.flag_setRa (v : Byte) (f : Flag) (s : State) : (s.setRa v).flag f = s.flag f := rfl
@[simp] theorem State.flag_setOpcode (v : Byte) (f : Flag) (s : State) : (s.setOpcode v).flag f = s.flag f := rfl
@[simp] theorem State.flag_record (e : Event) (f : Flag) (s : State) : (s.record e).flag f = s.flag f := rfl
@[simp] theorem State.flag_memWrite (a : Word) (v : Byte) (f : Flag) (s : State) :
    (s.memWrite a v).flag f = s.flag f := rfl
@[simp] theorem State.flag_push (v : Byte) (f : Flag) (s : State) : (s.push v).flag f = s.flag f := rfl

/-! ### Flags and the constant bit of the updates that write P -/

/-- A whole write of P loads every flag from the byte. -/
@[simp] theorem State.flag_writeP (v : Byte) (f : Flag) (s : State) : (s.writeP v).flag f = v.getLsbD f.bit := by
  simp [State.flag, getLsbD_constantBit, f.bit_ne_five]

/-- A write of one flag sets that flag and leaves every other. -/
@[simp] theorem State.flag_setFlag (f g : Flag) (b : Bool) (s : State) :
    (s.setFlag f b).flag g = if g = f then b else s.flag g := by
  simp only [State.setFlag, State.flag_writeP, getLsbD_setBit _ _ _ _ f.bit_lt]
  by_cases h : g = f
  · simp [h]
  · have hb : g.bit ≠ f.bit := fun hb => h (Flag.bit_inj hb)
    simp [h, hb, State.flag]

/-- Every write of P leaves bit 5 = 1 (R42). -/
theorem State.constant_writeP (v : Byte) (s : State) : (s.writeP v).p.getLsbD 5 = true := by
  simp [getLsbD_constantBit]

theorem State.constant_setFlag (f : Flag) (b : Bool) (s : State) : (s.setFlag f b).p.getLsbD 5 = true :=
  State.constant_writeP _ _

@[simp] theorem State.flag_setZN (r : Byte) (f : Flag) (s : State) :
    (s.setZN r).flag f = if f = .n then r.getLsbD 7 else if f = .z then r == 0 else s.flag f := by
  simp only [State.setZN, State.flag_setFlag]

theorem State.constant_setZN (r : Byte) (s : State) : (s.setZN r).p.getLsbD 5 = true := State.constant_setFlag _ _ _

@[simp] theorem State.flag_compare (reg m : Byte) (f : Flag) (s : State) :
    (s.compare reg m).flag f =
      if f = .n then (reg - m).getLsbD 7
      else if f = .z then reg - m == 0
      else if f = .c then decide (m.toNat ≤ reg.toNat) else s.flag f := by
  simp only [State.compare, State.flag_setZN, State.flag_setFlag]

theorem State.constant_compare (reg m : Byte) (s : State) : (s.compare reg m).p.getLsbD 5 = true :=
  State.constant_setZN _ _

@[simp] theorem State.flag_bitTest (m : Byte) (f : Flag) (s : State) :
    (s.bitTest m).flag f =
      if f = .n then m.getLsbD 7
      else if f = .v then m.getLsbD 6 else if f = .z then s.a &&& m == 0 else s.flag f := by
  simp only [State.bitTest, State.flag_setFlag]

theorem State.constant_bitTest (m : Byte) (s : State) : (s.bitTest m).p.getLsbD 5 = true := State.constant_setFlag _ _ _

@[simp] theorem State.flag_shiftFlags (q : ShiftResult) (f : Flag) (s : State) :
    (s.shiftFlags q).flag f =
      if f = .n then q.r.getLsbD 7 else if f = .z then q.r == 0 else if f = .c then q.out else s.flag f := by
  simp only [State.shiftFlags, State.flag_setZN, State.flag_setFlag]

theorem State.constant_shiftFlags (q : ShiftResult) (s : State) : (s.shiftFlags q).p.getLsbD 5 = true :=
  State.constant_setZN _ _

@[simp] theorem State.flag_applyAlu (q : AluResult) (f : Flag) (s : State) :
    (s.applyAlu q).flag f =
      if f = .n then q.r.getLsbD 7
      else if f = .z then q.r == 0 else if f = .v then q.v else if f = .c then q.c else s.flag f := by
  simp only [State.applyAlu, State.flag_setZN, State.flag_setFlag, State.flag_setA]

theorem State.constant_applyAlu (q : AluResult) (s : State) : (s.applyAlu q).p.getLsbD 5 = true :=
  State.constant_setZN _ _

/-! ### The pushed copies of P -/

/-- The copy PHP and BRK push has bits 4 and 5 set and every other bit as in P (60_exceptions.md R425). -/
theorem State.getLsbD_pushedByInstruction (j : Nat) (s : State) :
    s.pushedByInstruction.getLsbD j = if j = 4 ∨ j = 5 then true else s.p.getLsbD j := by
  simp only [State.pushedByInstruction, BitVec.getLsbD_or, getLsbD_constantBit, getLsbD_breakBit]
  by_cases h4 : j = 4 <;> by_cases h5 : j = 5 <;> simp [h4, h5]

/-- The copy IRQ and NMI push has bit 4 clear, bit 5 set and every other bit as in P (60_exceptions.md R425). -/
theorem State.getLsbD_pushedByInterrupt (j : Nat) (s : State) :
    s.pushedByInterrupt.getLsbD j = if j = 4 then false else if j = 5 then true else s.p.getLsbD j := by
  simp only [State.pushedByInterrupt, BitVec.getLsbD_and, BitVec.getLsbD_or, BitVec.getLsbD_not, getLsbD_constantBit,
    getLsbD_breakBit]
  by_cases h4 : j = 4
  · simp [h4]
  · by_cases h5 : j = 5
    · simp [h5]
    · by_cases hj : j < 8
      · simp [h4, h5, hj]
      · simp [h4, h5, hj, BitVec.getLsbD_of_ge s.p j (Nat.not_lt.1 hj)]

end Sys2Proof.Machine
end

