-- ==== Sys2Proof/Laws/Operands.lean ====
section
/-! SUPPORT. What resolving an operand, `Load` and `Store` can do: once for every mode (40_addressing.md R141 to R154). -/

namespace Sys2Proof.Machine

/-! ### Resolve -/

@[simp] theorem State.resolve_a (o : Operand) (s : State) : (s.resolve o).a = s.a := by cases o <;> rfl
@[simp] theorem State.resolve_x (o : Operand) (s : State) : (s.resolve o).x = s.x := by cases o <;> rfl
@[simp] theorem State.resolve_y (o : Operand) (s : State) : (s.resolve o).y = s.y := by cases o <;> rfl
@[simp] theorem State.resolve_sp (o : Operand) (s : State) : (s.resolve o).sp = s.sp := by cases o <;> rfl
@[simp] theorem State.resolve_p (o : Operand) (s : State) : (s.resolve o).p = s.p := by cases o <;> rfl
@[simp] theorem State.resolve_pc (o : Operand) (s : State) : (s.resolve o).pc = s.pc := by cases o <;> rfl
@[simp] theorem State.resolve_opcode (o : Operand) (s : State) : (s.resolve o).opcode = s.opcode := by cases o <;> rfl
@[simp] theorem State.resolve_debt (o : Operand) (s : State) : (s.resolve o).debt = s.debt := by cases o <;> rfl
@[simp] theorem State.resolve_mem (o : Operand) (s : State) : (s.resolve o).mem = s.mem := by cases o <;> rfl
@[simp] theorem State.resolve_params (o : Operand) (s : State) : (s.resolve o).params = s.params := by cases o <;> rfl
@[simp] theorem State.resolve_inputs (o : Operand) (s : State) : (s.resolve o).inputs = s.inputs := by cases o <;> rfl
@[simp] theorem State.resolve_openCallbacks (o : Operand) (s : State) : (s.resolve o).openCallbacks = s.openCallbacks := by cases o <;> rfl
@[simp] theorem State.resolve_callbacks (o : Operand) (s : State) : (s.resolve o).callbacks = s.callbacks := by cases o <;> rfl
@[simp] theorem State.resolve_envOwns (o : Operand) (a : Word) (s : State) : (s.resolve o).envOwns a = s.envOwns a := by
  cases o <;> rfl
@[simp] theorem State.resolve_ea (o : Operand) (s : State) : (s.resolve o).ea = s.effective o := by cases o <;> rfl
@[simp] theorem State.resolve_ra (o : Operand) (s : State) : (s.resolve o).ra = s.offsetLatch o := by cases o <;> rfl
@[simp] theorem State.resolve_history (o : Operand) (s : State) :
    (s.resolve o).history = s.pointerEvents o ++ s.history := by cases o <;> rfl
@[simp] theorem State.flag_resolve (o : Operand) (f : Flag) (s : State) : (s.resolve o).flag f = s.flag f := by
  simp [State.flag]

/-- Resolve uses the environment's answers for the pointer's reads only. -/
theorem AnswersUsed.resolve (o : Operand) (s : State) : AnswersUsed s (s.resolve o) := by
  have h : AnswersUsed s (s.readPointer o) := by
    unfold State.readPointer
    split
    · exact .trans (.read _ s) (.read _ _) rfl
    · exact .refl s
  exact .trans h (.of_eq rfl rfl rfl) (by cases o <;> rfl)

/-! ### Load -/

/-- The access of a Load in a resolved state, as events. -/
def State.loadEvents (o : Operand) (s : State) : List Event :=
  match o with
  | .acc | .imm _ => []
  | .imp | .zp _ | .zpx _ | .zpy _ | .rel _ | .indx _ | .indy _ | .abs _ | .absx _ | .absy _ | .ind _ =>
    [.read s.ea (s.peekValue s.ea)]

/-- A Load after Resolve gives the operand's value. -/
@[simp] theorem State.load_value (o : Operand) (s : State) : ((s.resolve o).load o).1 = s.operandValue o := by
  cases o <;> rfl

@[simp] theorem State.load_a (o : Operand) (s : State) : (s.load o).2.a = s.a := by cases o <;> rfl
@[simp] theorem State.load_x (o : Operand) (s : State) : (s.load o).2.x = s.x := by cases o <;> rfl
@[simp] theorem State.load_y (o : Operand) (s : State) : (s.load o).2.y = s.y := by cases o <;> rfl
@[simp] theorem State.load_sp (o : Operand) (s : State) : (s.load o).2.sp = s.sp := by cases o <;> rfl
@[simp] theorem State.load_p (o : Operand) (s : State) : (s.load o).2.p = s.p := by cases o <;> rfl
@[simp] theorem State.load_pc (o : Operand) (s : State) : (s.load o).2.pc = s.pc := by cases o <;> rfl
@[simp] theorem State.load_opcode (o : Operand) (s : State) : (s.load o).2.opcode = s.opcode := by cases o <;> rfl
@[simp] theorem State.load_ea (o : Operand) (s : State) : (s.load o).2.ea = s.ea := by cases o <;> rfl
@[simp] theorem State.load_ra (o : Operand) (s : State) : (s.load o).2.ra = s.ra := by cases o <;> rfl
@[simp] theorem State.load_debt (o : Operand) (s : State) : (s.load o).2.debt = s.debt := by cases o <;> rfl
@[simp] theorem State.load_mem (o : Operand) (s : State) : (s.load o).2.mem = s.mem := by cases o <;> rfl
@[simp] theorem State.load_params (o : Operand) (s : State) : (s.load o).2.params = s.params := by cases o <;> rfl
@[simp] theorem State.load_inputs (o : Operand) (s : State) : (s.load o).2.inputs = s.inputs := by cases o <;> rfl
@[simp] theorem State.load_openCallbacks (o : Operand) (s : State) : (s.load o).2.openCallbacks = s.openCallbacks := by cases o <;> rfl
@[simp] theorem State.load_callbacks (o : Operand) (s : State) : (s.load o).2.callbacks = s.callbacks := by cases o <;> rfl
@[simp] theorem State.load_envOwns (o : Operand) (a : Word) (s : State) : (s.load o).2.envOwns a = s.envOwns a := by
  cases o <;> rfl
@[simp] theorem State.load_history (o : Operand) (s : State) :
    (s.load o).2.history = s.loadEvents o ++ s.history := by cases o <;> rfl
@[simp] theorem State.flag_load (o : Operand) (f : Flag) (s : State) : (s.load o).2.flag f = s.flag f := by
  simp [State.flag]

theorem AnswersUsed.load (o : Operand) (s : State) : AnswersUsed s (s.load o).2 := by
  cases o <;> first | exact .refl s | exact .read _ s

/-! ### MemRead -/

@[simp] theorem State.memRead_value (a : Word) (s : State) : (s.memRead a).1 = s.peekValue a := rfl
@[simp] theorem State.memRead_state (a : Word) (s : State) : (s.memRead a).2 = s.afterRead a := rfl
@[simp] theorem State.flag_afterRead (a : Word) (f : Flag) (s : State) : (s.afterRead a).flag f = s.flag f := rfl

/-! ### Store -/

@[simp] theorem State.store_x (o : Operand) (v : Byte) (s : State) : (s.store o v).x = s.x := by cases o <;> rfl
@[simp] theorem State.store_y (o : Operand) (v : Byte) (s : State) : (s.store o v).y = s.y := by cases o <;> rfl
@[simp] theorem State.store_sp (o : Operand) (v : Byte) (s : State) : (s.store o v).sp = s.sp := by cases o <;> rfl
@[simp] theorem State.store_p (o : Operand) (v : Byte) (s : State) : (s.store o v).p = s.p := by cases o <;> rfl
@[simp] theorem State.store_pc (o : Operand) (v : Byte) (s : State) : (s.store o v).pc = s.pc := by cases o <;> rfl
@[simp] theorem State.store_opcode (o : Operand) (v : Byte) (s : State) : (s.store o v).opcode = s.opcode := by cases o <;> rfl
@[simp] theorem State.store_ea (o : Operand) (v : Byte) (s : State) : (s.store o v).ea = s.ea := by cases o <;> rfl
@[simp] theorem State.store_ra (o : Operand) (v : Byte) (s : State) : (s.store o v).ra = s.ra := by cases o <;> rfl
@[simp] theorem State.store_debt (o : Operand) (v : Byte) (s : State) : (s.store o v).debt = s.debt := by cases o <;> rfl
@[simp] theorem State.store_params (o : Operand) (v : Byte) (s : State) : (s.store o v).params = s.params := by cases o <;> rfl
@[simp] theorem State.store_inputs (o : Operand) (v : Byte) (s : State) : (s.store o v).inputs = s.inputs := by cases o <;> rfl
@[simp] theorem State.store_openCallbacks (o : Operand) (v : Byte) (s : State) : (s.store o v).openCallbacks = s.openCallbacks := by cases o <;> rfl
@[simp] theorem State.store_callbacks (o : Operand) (v : Byte) (s : State) : (s.store o v).callbacks = s.callbacks := by cases o <;> rfl
@[simp] theorem State.store_answers (o : Operand) (v : Byte) (s : State) : (s.store o v).answers = s.answers := by cases o <;> rfl
@[simp] theorem State.store_draws (o : Operand) (v : Byte) (s : State) : (s.store o v).draws = s.draws := by cases o <;> rfl

/-- Whether an operand names the accumulator. -/
def isAcc : Operand → Bool
  | .acc => true
  | .imp | .imm _ | .zp _ | .zpx _ | .zpy _ | .rel _ | .indx _ | .indy _ | .abs _ | .absx _ | .absy _ | .ind _ => false

@[simp] theorem State.store_a (o : Operand) (v : Byte) (s : State) :
    (s.store o v).a = if isAcc o then v else s.a := by cases o <;> rfl
@[simp] theorem State.store_mem (o : Operand) (v : Byte) (s : State) :
    (s.store o v).mem = if isAcc o then s.mem else s.pokeMem s.ea v := by cases o <;> rfl
@[simp] theorem State.store_history (o : Operand) (v : Byte) (s : State) :
    (s.store o v).history = if isAcc o then s.history else .write s.ea v :: s.history := by cases o <;> rfl
@[simp] theorem State.flag_store (o : Operand) (v : Byte) (f : Flag) (s : State) : (s.store o v).flag f = s.flag f := by
  simp [State.flag]

end Sys2Proof.Machine
end

