-- ==== Sys2Proof/Laws/Ops.lean ====
section
/-! SUPPORT. What the stack operations do, each said once: pushes, pulls, the entry into a handler and the return (00_scope.md
R14, 60_exceptions.md R421 to R431). -/

namespace Sys2Proof.Machine

/-! ### The stack -/

theorem State.read16_eq (a : Word) (s : State) :
    s.read16 a = (word ((s.afterRead a).peekValue (a + 1)) (s.peekValue a), (s.afterRead a).afterRead (a + 1)) := rfl

theorem State.pull_eq (s : State) :
    s.pull = (s.peekValue (stackAddr (s.sp + 1)), (s.setSp (s.sp + 1)).afterRead (stackAddr (s.sp + 1))) := rfl

theorem State.pull16_eq (s : State) :
    s.pull16 =
      (word ((s.afterRead (stackAddr (s.sp + 1))).peekValue (stackAddr (s.sp + 1 + 1))) (s.peekValue (stackAddr (s.sp + 1))),
        (s.setSp (s.sp + 1 + 1)).afterReads [stackAddr (s.sp + 1), stackAddr (s.sp + 1 + 1)]) := rfl

theorem State.push_eq (v : Byte) (s : State) :
    s.push v = { s with
      sp := s.sp - 1
      mem := s.pokeMem (stackAddr s.sp) v
      history := .write (stackAddr s.sp) v :: s.history } := rfl

theorem State.push16_eq (w : Word) (s : State) :
    s.push16 w = { s with
      sp := s.sp - 1 - 1
      mem := (s.push (hi8 w)).pokeMem (stackAddr (s.sp - 1)) (lo8 w)
      history := .write (stackAddr (s.sp - 1)) (lo8 w) :: .write (stackAddr s.sp) (hi8 w) :: s.history } := rfl

/-- The state after the three pushes of an entry. -/
def State.entryPushes (ret : Word) (pushed : Byte) (s : State) : State := (s.push16 ret).push pushed

@[simp] theorem State.entryPushes_a (ret : Word) (b : Byte) (s : State) : (s.entryPushes ret b).a = s.a := rfl
@[simp] theorem State.entryPushes_x (ret : Word) (b : Byte) (s : State) : (s.entryPushes ret b).x = s.x := rfl
@[simp] theorem State.entryPushes_y (ret : Word) (b : Byte) (s : State) : (s.entryPushes ret b).y = s.y := rfl
@[simp] theorem State.entryPushes_p (ret : Word) (b : Byte) (s : State) : (s.entryPushes ret b).p = s.p := rfl
@[simp] theorem State.entryPushes_pc (ret : Word) (b : Byte) (s : State) : (s.entryPushes ret b).pc = s.pc := rfl
@[simp] theorem State.entryPushes_opcode (ret : Word) (b : Byte) (s : State) : (s.entryPushes ret b).opcode = s.opcode := rfl
@[simp] theorem State.entryPushes_ea (ret : Word) (b : Byte) (s : State) : (s.entryPushes ret b).ea = s.ea := rfl
@[simp] theorem State.entryPushes_ra (ret : Word) (b : Byte) (s : State) : (s.entryPushes ret b).ra = s.ra := rfl
@[simp] theorem State.entryPushes_debt (ret : Word) (b : Byte) (s : State) : (s.entryPushes ret b).debt = s.debt := rfl
@[simp] theorem State.entryPushes_params (ret : Word) (b : Byte) (s : State) : (s.entryPushes ret b).params = s.params := rfl
@[simp] theorem State.entryPushes_inputs (ret : Word) (b : Byte) (s : State) : (s.entryPushes ret b).inputs = s.inputs := rfl
@[simp] theorem State.entryPushes_openCallbacks (ret : Word) (b : Byte) (s : State) : (s.entryPushes ret b).openCallbacks = s.openCallbacks := rfl
@[simp] theorem State.entryPushes_callbacks (ret : Word) (b : Byte) (s : State) : (s.entryPushes ret b).callbacks = s.callbacks := rfl
@[simp] theorem State.entryPushes_answers (ret : Word) (b : Byte) (s : State) : (s.entryPushes ret b).answers = s.answers := rfl
@[simp] theorem State.entryPushes_draws (ret : Word) (b : Byte) (s : State) : (s.entryPushes ret b).draws = s.draws := rfl

/-- The entry into a handler, field by field (60_exceptions.md R421, R426). -/
theorem State.enterHandler_eq (ret : Word) (pushed : Byte) (v : Word) (s : State) :
    s.enterHandler ret pushed v = { (s.entryPushes ret pushed).afterReads [v, v + 1] with
      p := setBit s.p 2 true ||| constantBit
      pc := word (((s.entryPushes ret pushed).afterRead v).peekValue (v + 1)) ((s.entryPushes ret pushed).peekValue v) } := rfl

@[simp] theorem State.enterHandler_a (ret : Word) (b : Byte) (v : Word) (s : State) :
    (s.enterHandler ret b v).a = s.a := by
  rw [State.enterHandler_eq, State.afterReads_a, State.entryPushes_a]

@[simp] theorem State.enterHandler_x (ret : Word) (b : Byte) (v : Word) (s : State) :
    (s.enterHandler ret b v).x = s.x := by
  rw [State.enterHandler_eq, State.afterReads_x, State.entryPushes_x]

@[simp] theorem State.enterHandler_y (ret : Word) (b : Byte) (v : Word) (s : State) :
    (s.enterHandler ret b v).y = s.y := by
  rw [State.enterHandler_eq, State.afterReads_y, State.entryPushes_y]

@[simp] theorem State.enterHandler_sp (ret : Word) (b : Byte) (v : Word) (s : State) :
    (s.enterHandler ret b v).sp = s.sp - 1 - 1 - 1 := by
  rw [State.enterHandler_eq, State.afterReads_sp]
  rfl

@[simp] theorem State.enterHandler_debt (ret : Word) (b : Byte) (v : Word) (s : State) :
    (s.enterHandler ret b v).debt = s.debt := by
  rw [State.enterHandler_eq, State.afterReads_debt, State.entryPushes_debt]

@[simp] theorem State.enterHandler_params (ret : Word) (b : Byte) (v : Word) (s : State) :
    (s.enterHandler ret b v).params = s.params := by
  rw [State.enterHandler_eq, State.afterReads_params, State.entryPushes_params]

@[simp] theorem State.enterHandler_inputs (ret : Word) (b : Byte) (v : Word) (s : State) :
    (s.enterHandler ret b v).inputs = s.inputs := by
  rw [State.enterHandler_eq, State.afterReads_inputs, State.entryPushes_inputs]
@[simp] theorem State.enterHandler_openCallbacks (ret : Word) (b : Byte) (v : Word) (s : State) :
    (s.enterHandler ret b v).openCallbacks = s.openCallbacks := by
  rw [State.enterHandler_eq, State.afterReads_openCallbacks, State.entryPushes_openCallbacks]

@[simp] theorem State.enterHandler_callbacks (ret : Word) (b : Byte) (v : Word) (s : State) :
    (s.enterHandler ret b v).callbacks = s.callbacks := by
  rw [State.enterHandler_eq, State.afterReads_callbacks, State.entryPushes_callbacks]

@[simp] theorem State.enterHandler_mem (ret : Word) (b : Byte) (v : Word) (s : State) :
    (s.enterHandler ret b v).mem = (s.entryPushes ret b).mem := by
  rw [State.enterHandler_eq, State.afterReads_mem]

theorem State.flag_enterHandler (ret : Word) (pushed : Byte) (v : Word) (f : Flag) (s : State) :
    (s.enterHandler ret pushed v).flag f = if f = .i then true else s.flag f := by
  have : (s.enterHandler ret pushed v).p = (s.setFlag .i true).p := by rw [State.enterHandler_eq]; rfl
  rw [State.flag, this, ← State.flag, State.flag_setFlag]

theorem State.constant_enterHandler (ret : Word) (pushed : Byte) (v : Word) (s : State) :
    (s.enterHandler ret pushed v).p.getLsbD 5 = true := by
  rw [State.enterHandler_eq]
  exact State.constant_writeP (setBit s.p 2 true) s

/-- The return from a handler, field by field (46_stack_flags_system.md R361). -/
theorem State.returnFromHandler_eq (s : State) :
    s.returnFromHandler =
      { s.afterReads [stackAddr (s.sp + 1), stackAddr (s.sp + 1 + 1), stackAddr (s.sp + 1 + 1 + 1)] with
        sp := s.sp + 1 + 1 + 1
        p := s.peekValue (stackAddr (s.sp + 1)) ||| constantBit
        pc :=
          word (((s.afterRead (stackAddr (s.sp + 1))).afterRead (stackAddr (s.sp + 1 + 1))).peekValue
              (stackAddr (s.sp + 1 + 1 + 1)))
            ((s.afterRead (stackAddr (s.sp + 1))).peekValue (stackAddr (s.sp + 1 + 1))) } := by
  simp only [State.returnFromHandler, State.pull16_eq, State.pull_eq, State.afterReads, State.afterRead_setSp,
    State.afterRead_writeP, State.writeP_sp, State.writeP_peekValue, State.setSp_peekValue, State.setSp_sp]
  rfl

theorem toNat_stackAddr (sp : Byte) : (stackAddr sp).toNat = 256 + sp.toNat := by
  have h := sp.isLt
  have : (stackAddr sp).toNat = 2 ^ 8 * 1 ||| sp.toNat := by
    simp only [stackAddr, BitVec.toNat_or, BitVec.toNat_setWidth]
    rw [Nat.mod_eq_of_lt (by omega)]
    rfl
  rw [this, ← Nat.two_pow_add_eq_or_of_lt h]

/-- Stack addresses differ where the stack pointers do. -/
theorem stackAddr_inj {a b : Byte} : stackAddr a = stackAddr b ↔ a = b := by
  constructor
  · intro h
    apply BitVec.eq_of_toNat_eq
    have := congrArg BitVec.toNat h
    rw [toNat_stackAddr, toNat_stackAddr] at this
    omega
  · rintro rfl; rfl

end Sys2Proof.Machine
end

