-- ==== Sys2Proof/Laws/Cycle.lean ====
section
/-! SUPPORT. The fetch, the core's step, and which agent moves next, each said once (40_addressing.md R140, R155,
60_exceptions.md R422, R432). -/

namespace Sys2Proof.Machine

theorem operandCount_le (op : Byte) : operandCount op ≤ 2 := by
  unfold operandCount
  cases (instrOf op 0 0).operand.mode <;> decide

/-- The length of a cell is one more than its operand bytes (30_encoding.md R109). -/
theorem length_instrOf (op b1 b2 : Byte) : (instrOf op b1 b2).length = operandCount op + 1 := by
  simp only [Instr.length, Mode.length, mode_instrOf op b1 b2, operandCount]

/-- The instruction at PC: the cell of the opcode byte with the bytes read after it, as many as its mode has. -/
def State.instrAtPc (s : State) : Instr :=
  instrOf (s.peekValue s.pc)
    (if operandCount (s.peekValue s.pc) = 0 then 0 else (s.afterRead s.pc).peekValue (s.pc + 1))
    (if operandCount (s.peekValue s.pc) = 2 then ((s.afterRead s.pc).afterRead (s.pc + 1)).peekValue (s.pc + 2) else 0)

theorem State.fetchAddresses_one (s : State) : s.fetchAddresses 1 = [s.pc] := by
  simp [State.fetchAddresses]
theorem State.fetchAddresses_two (s : State) : s.fetchAddresses 2 = [s.pc, s.pc + 1] := by
  simp [State.fetchAddresses, List.range_succ]
theorem State.fetchAddresses_three (s : State) : s.fetchAddresses 3 = [s.pc, s.pc + 1, s.pc + 2] := by
  simp [State.fetchAddresses, List.range_succ]

theorem State.fetchByte_eq (s : State) : s.fetchByte = (s.peekValue s.pc, (s.afterRead s.pc).setPc (s.pc + 1)) := rfl

/-- What the fetch does. -/
theorem State.fetch_eq (s : State) :
    s.fetch = (s.instrAtPc, s.afterFetch (operandCount (s.peekValue s.pc) + 1)) := by
  have hle := operandCount_le (s.peekValue s.pc)
  have hpc2 : s.pc + 1 + 1 = s.pc + 2 := by rw [BitVec.add_assoc]; rfl
  have hpc3 : s.pc + 2 + 1 = s.pc + 3 := by rw [BitVec.add_assoc]; rfl
  unfold State.fetch State.instrAtPc State.afterFetch
  simp only [State.fetchByte_eq, State.afterRead_setPc, State.afterRead_setOpcode, State.setOpcode_pc, State.setPc_pc,
    State.setOpcode_peekValue, State.setPc_peekValue, hpc2, hpc3]
  interval_cases h : operandCount (s.peekValue s.pc)
  · simp only [Nat.zero_add, State.fetchAddresses_one, if_true, if_neg (by decide : ¬(0 : Nat) = 2)]
    rfl
  · simp only [Nat.reduceAdd, State.fetchAddresses_two, if_neg (by decide : ¬(1 : Nat) = 0),
      if_neg (by decide : ¬(1 : Nat) = 2)]
    rfl
  · simp only [Nat.reduceAdd, State.fetchAddresses_three, if_true, if_neg (by decide : ¬(2 : Nat) = 0)]
    rfl

theorem coreStep_eq (s : State) :
    coreStep s = settled (exec s.instrAtPc (s.afterFetch (operandCount (s.peekValue s.pc) + 1))) := by
  rw [coreStep, State.fetch_eq]

theorem settled_next {o : Outcome} {t : State} (h : settled o = .next t) : ∃ u, o = .next u ∧ t = u.settle := by
  cases o with
  | next u => injection h with h; exact ⟨u, rfl, h.symm⟩
  | fault r => cases r
  | refused r => cases h

theorem settled_refused {o : Outcome} {r : Refusal} (h : settled o = .refused r) : o = .refused r := by
  cases o with
  | next u => cases h
  | fault r => cases r
  | refused q => injection h with h; rw [h]

/-! ### The agent that moves next -/

theorem step_idle {s : State} (h : s.Idle) : step s = coreStep s := by
  rw [step, agentStep, h.1, h.2]

theorem step_due {c : HostCall} {s u : State} (h : Due c s u) : step s = hostStep c u := by
  rcases h with ⟨o, cs, os, ho, hc, rfl⟩ | ⟨ho, rest, hi, rfl⟩
  · simp only [step, agentStep, ho, hc, callbackStep]
  · simp only [step, agentStep, ho, hi]

/-- An open callback writes a register. -/
theorem step_write {s : State} {o : OpenCallback} {os : List OpenCallback} {cs : List CallbackCall} {w : RegWrite}
    (ho : s.openCallbacks = o :: os) (hc : o.calls = .write w :: cs) :
    step s = .next (State.hostRegister w { s with openCallbacks := { o with calls := cs } :: os }) := by
  simp only [step, agentStep, ho, hc, callbackStep]

/-- An open callback returns. -/
theorem step_return {s : State} {o : OpenCallback} {os : List OpenCallback} (ho : s.openCallbacks = o :: os)
    (hc : o.calls = []) : step s = .next (State.trapReturn o { s with openCallbacks := os }).settle := by
  simp only [step, agentStep, ho, hc]

/-- A step is an instruction, a call of the environment, a register write inside a callback, or a callback's return. -/
theorem step_cases (s : State) :
    s.Idle ∨ (∃ c u, Due c s u) ∨
    (∃ o os cs w, s.openCallbacks = o :: os ∧ o.calls = .write w :: cs) ∨
    ∃ o os, s.openCallbacks = o :: os ∧ o.calls = [] := by
  rcases ho : s.openCallbacks with _ | ⟨o, os⟩
  · rcases hi : s.inputs with _ | ⟨c, rest⟩
    · exact .inl ⟨ho, hi⟩
    · exact .inr (.inl ⟨c, _, .inr ⟨ho, rest, hi, rfl⟩⟩)
  · rcases hc : o.calls with _ | ⟨c | w, cs⟩
    · exact .inr (.inr (.inr ⟨o, os, rfl, hc⟩))
    · exact .inr (.inl ⟨c, _, .inl ⟨o, cs, os, ho, hc, rfl⟩⟩)
    · exact .inr (.inr (.inl ⟨o, os, cs, w, rfl, hc⟩))

/-- What a call that is due leaves alone: everything but the call itself. -/
theorem Due.rest {c : HostCall} {s u : State} (h : Due c s u) :
    ∃ is os, u = { s with inputs := is, openCallbacks := os } := by
  rcases h with ⟨o, cs, os, ho, hc, rfl⟩ | ⟨ho, rest, hi, rfl⟩
  · exact ⟨_, _, rfl⟩
  · exact ⟨_, _, rfl⟩

end Sys2Proof.Machine
end

