-- ==== Sys2Proof/Laws/Forms.lean ====
section
/-! SUPPORT. From the forms of an instruction rule to the operation of its identity, and the parts of a frame. -/

namespace Sys2Proof.Machine

/-- The cells of a list of forms are those of one identity, with the listed modes, and of a tier that always executes. -/
abbrev FormsOf (m : Mnemonic) (forms : List (Byte × Mode)) : Prop :=
  ∀ f ∈ forms, (instrOf f.1 0 0).mnemonic = m ∧ (instrOf f.1 0 0).operand.mode = f.2 ∧
    ((instrOf f.1 0 0).tier = .t1 ∨ (instrOf f.1 0 0).tier = .t2)

/-- The same for tier T3. -/
abbrev FormsOfT3 (m : Mnemonic) (forms : List (Byte × Mode)) : Prop :=
  ∀ f ∈ forms, (instrOf f.1 0 0).mnemonic = m ∧ (instrOf f.1 0 0).operand.mode = f.2 ∧ (instrOf f.1 0 0).tier = .t3

/-- A statement about the forms of one identity follows from one about its operation on every operand of a listed mode. -/
theorem onForms_of {forms : List (Byte × Mode)} {m : Mnemonic} {P : Instr → Prop} (hf : FormsOf m forms)
    (hP : ∀ i : Instr, (∃ f ∈ forms, i.operand.mode = f.2) → (∀ s, exec i s = .next (opOf m i.operand s)) → P i) :
    OnForms forms P := by
  intro f hmem i hi
  obtain ⟨hm, hk, ht⟩ := hf f hmem
  obtain ⟨h1, h2, h3⟩ := of_opcode hi
  refine ⟨h2.trans hk, hP i ⟨f, hmem, h2.trans hk⟩ fun s => ?_⟩
  rw [exec_admitted s (by rw [h3]; exact ht), h1, hm]

/-- The same for forms of tier T3, which execute where `ADMIT_T3` is true and refuse where it is not. -/
theorem onFormsT3_of {forms : List (Byte × Mode)} {m : Mnemonic} {P : Instr → Prop} (hf : FormsOfT3 m forms)
    (hP : ∀ i : Instr, (∃ f ∈ forms, i.operand.mode = f.2) →
      (∀ s, exec i s = if s.params.admitT3 then .next (opOf m i.operand s) else s.refuse i.opcode i.length) → P i) :
    OnForms forms P := by
  intro f hmem i hi
  obtain ⟨hm, hk, ht⟩ := hf f hmem
  obtain ⟨h1, h2, h3⟩ := of_opcode hi
  refine ⟨h2.trans hk, hP i ⟨f, hmem, h2.trans hk⟩ fun s => ?_⟩
  rw [exec_eq, Instr.admitted, h3, ht, h1, hm]

/-! ### The parts of a frame -/

/-- Z and N of a result, from the flags a computation leaves. -/
theorem znOf_of {r : Byte} {t : State} (hz : t.flag .z = (r == 0)) (hn : t.flag .n = r.getLsbD 7) : ZNof r t := by
  refine ⟨?_, ?_⟩
  · rw [hz, beq_iff_eq]
    exact ⟨fun h => by rw [h]; rfl, fun h => BitVec.eq_of_toNat_eq h⟩
  · rw [hn, ← BitVec.msb_eq_getLsbD_last (w := 8), BitVec.msb_eq_decide, decide_eq_true_iff]

theorem State.reg_a (s : State) : s.reg .a = s.a := rfl
theorem State.reg_x (s : State) : s.reg .x = s.x := rfl
theorem State.reg_y (s : State) : s.reg .y = s.y := rfl
theorem State.reg_sp (s : State) : s.reg .sp = s.sp := rfl

/-- The accesses of Resolve and then Load. -/
theorem State.history_resolve_load (o : Operand) (s : State) (h : o.mode ≠ .imp) :
    ((s.resolve o).load o).2.history = s.operandReads o ++ s.history := by
  cases o <;> first | rfl | exact absurd rfl h

/-- Resolve and then Load use the environment's answers for their reads only. -/
theorem AnswersUsed.resolve_load (o : Operand) (s : State) : AnswersUsed s ((s.resolve o).load o).2 :=
  .trans (.resolve o s) (.load o _) (State.resolve_params o s)

/-- Resolve and then Load change the latches, the history and the environment's answers only. -/
theorem State.resolve_load_quiet (o : Operand) (s : State) (h : o.mode ≠ .imp) : Quiet [] [] o s ((s.resolve o).load o).2 :=
  ⟨by simp, ⟨fun r _ => by cases r <;> simp [State.reg], fun f _ => by simp, by simp, by simp, by simp, by simp, by simp, by simp,
    .resolve_load o s⟩, fun a => by simp, State.history_resolve_load o s h⟩

/-- Resolve changes the latches, the history and the environment's answers only. -/
theorem State.resolve_resolved (o : Operand) (s : State) : Resolved o s (s.resolve o) :=
  ⟨by simp, ⟨fun r _ => by cases r <;> simp [State.reg], fun f _ => by simp, by simp, by simp, by simp, by simp, by simp, by simp,
    .resolve o s⟩, fun a => by simp, State.resolve_history o s⟩

/-- The accesses of Resolve and then one read of the effective address. -/
theorem State.operandReads_mem (o : Operand) (s : State) (h : o.mode ∉ [Mode.imp, .acc, .imm]) :
    s.operandReads o = .read (s.effective o) (s.operandValue o) :: s.pointerEvents o := by
  cases o <;> first | rfl | exact absurd (by simp [Operand.mode]) h

/-- The value a Load gives in a mode that reads memory. -/
theorem State.operandValue_mem (o : Operand) (s : State) (h : o.mode ∉ [Mode.acc, .imm]) :
    s.operandValue o = (s.resolve o).peekValue (s.effective o) := by
  cases o <;> first | rfl | exact absurd (by simp [Operand.mode]) h

/-- The same where the effective address is plain RAM. -/
theorem State.operandValue_ram (o : Operand) (s : State) (h : o.mode ∉ [Mode.acc, .imm])
    (hr : s.envOwns (s.effective o) = false) : s.operandValue o = s.mem.read (s.effective o) := by
  rw [State.operandValue_mem o s h, State.peekValue_ram (by rw [State.resolve_envOwns, hr]), State.resolve_mem]

/-- A store by a write of memory. -/
theorem storesAt_poke {s u t : State} {a : Word} {v : Byte} (h : Memory.wf s.mem = true) (hm : u.mem = s.mem)
    (hq : u.envOwns a = s.envOwns a) (ht : t.mem = u.pokeMem a v) : StoresAt a v s t := by
  refine ⟨fun ho => ?_, fun b hb => ?_⟩
  · rw [ht, State.read_pokeMem a a v (by rw [hm, h]), hq, if_pos ⟨rfl, ho⟩]
  · rw [ht, State.read_pokeMem a b v (by rw [hm, h]), if_neg fun h => hb h.1, hm]

end Sys2Proof.Machine
end

