-- ==== Sys2Proof/Laws/Alu.lean ====
section
/-! SUPPORT. What each ALU function computes, in the words of Safety, and what `ADC_op` and `SBC_op` do to a state
(41_alu.md R171 to R176, R178 to R181, R186). -/

namespace Sys2Proof.Machine

/-! ### Overflow -/

theorem and_sign (b : Byte) : (b &&& 0x80 != 0) = b.getLsbD 7 := by
  revert b
  refine forall_byte fun n => ?_
  fin_cases n <;> rfl

theorem addOverflow_iff (a m r : Byte) : addOverflow a m r = true ↔ a.getLsbD 7 = m.getLsbD 7 ∧ r.getLsbD 7 ≠ a.getLsbD 7 := by
  rw [addOverflow, and_sign]
  simp only [BitVec.getLsbD_and, BitVec.getLsbD_not, BitVec.getLsbD_xor]
  cases a.getLsbD 7 <;> cases m.getLsbD 7 <;> cases r.getLsbD 7 <;> decide

theorem subOverflow_iff (a m r : Byte) : subOverflow a m r = true ↔ a.getLsbD 7 ≠ m.getLsbD 7 ∧ r.getLsbD 7 ≠ a.getLsbD 7 := by
  rw [subOverflow, and_sign]
  simp only [BitVec.getLsbD_and, BitVec.getLsbD_xor]
  cases a.getLsbD 7 <;> cases m.getLsbD 7 <;> cases r.getLsbD 7 <;> decide

/-! ### Binary and decimal arithmetic -/

theorem addBin_spec (a m : Byte) (c : Bool) : BinarySum a m c (addBin a m c).r (addBin a m c).c (addBin a m c).v := by
  refine ⟨?_, ?_, addOverflow_iff _ _ _⟩
  · simp [addBin]
  · simp [addBin]

theorem toNat_complement (m : Byte) : (m ^^^ 0xFF).toNat = 255 - m.toNat := by
  have h : m ^^^ 0xFF = ~~~m := BitVec.xor_allOnes
  rw [h, BitVec.toNat_not]

theorem subBin_spec (a m : Byte) (c : Bool) :
    BinaryDifference a m c (subBin a m c).r (subBin a m c).c (subBin a m c).v := by
  have hm := m.isLt
  have hc : c.toNat ≤ 1 := Bool.toNat_le c
  refine ⟨?_, ?_, subOverflow_iff _ _ _⟩
  · simp only [subBin, toNat_complement, BitVec.toNat_ofNat]
    omega
  · simp only [subBin, toNat_complement, decide_eq_true_iff]
    omega

theorem addDec_spec (a m : Byte) (c : Bool) : DecimalSum a m c (addDec a m c).r (addDec a m c).c (addDec a m c).v := by
  have ha := a.isLt
  have hm := m.isLt
  have hc : c.toNat ≤ 1 := Bool.toNat_le c
  refine ⟨_, _, rfl, rfl, ?_, ?_, decide_eq_true_iff.trans ?_, addOverflow_iff _ _ _⟩
  all_goals simp only [addDec, loNibble, hiNibble, BitVec.toNat_ofNat]
  all_goals
    by_cases h1 : 9 < a.toNat % 16 + m.toNat % 16 + c.toNat
    · have h2 : 15 < a.toNat % 16 + m.toNat % 16 + c.toNat + 6 := by omega
      simp only [h1, h2, if_true]
      try split
      all_goals omega
    · have h2 : ¬15 < a.toNat % 16 + m.toNat % 16 + c.toNat := by omega
      simp only [h1, h2, if_false]
      try split
      all_goals omega

theorem subDec_spec (a m : Byte) (c : Bool) :
    DecimalDifference a m c (subDec a m c).r (subDec a m c).c (subDec a m c).v := by
  have ha := a.isLt
  have hm := m.isLt
  have hc : c.toNat ≤ 1 := Bool.toNat_le c
  refine ⟨_, _, rfl, rfl, ?_, ?_, decide_eq_true_iff.trans ?_, subOverflow_iff _ _ _⟩
  all_goals simp only [subDec, loNibble, hiNibble, BitVec.toNat_ofNat]
  all_goals
    by_cases h1 : ((a.toNat % 16 : Nat) : Int) - (m.toNat % 16 : Nat) - (1 - c.toNat) < 0
    · simp only [h1, if_true]
      try split
      all_goals omega
    · simp only [h1, if_false]
      try split
      all_goals omega

theorem isBcd_iff (b : Byte) : isBcd b = true ↔ Digits b := by
  rw [isBcd, Bool.and_eq_true, decide_eq_true_eq, decide_eq_true_eq]
  rfl

theorem State.decimalIsOpen_iff (m : Byte) (s : State) : s.decimalIsOpen m = true ↔ s.OpenDecimal m := by
  simp only [State.decimalIsOpen, State.OpenDecimal, ← isBcd_iff, Bool.and_eq_true, decide_eq_true_iff, Bool.not_eq_true']
  rw [← Bool.not_eq_true, Bool.and_eq_true]

/-! ### ADC_op and SBC_op on a state -/

theorem State.drawDecimal_frame (s : State) : ArithFrame s s.drawDecimal := by
  refine ⟨rfl, rfl, rfl, rfl, fun f hf => ?_, State.constant_setFlag _ _ _, rfl, rfl, rfl, rfl, rfl, [], rfl, rfl⟩
  have h : ∀ g, State.flag g { s with a := (Config.decimalDraw s.draws).r, draws := s.draws + 1 } = s.flag g := fun _ => rfl
  cases f <;> simp_all [State.drawDecimal]

theorem State.applyAlu_frame (q : AluResult) (s : State) : ArithFrame s (s.applyAlu q) := by
  refine ⟨rfl, rfl, rfl, rfl, fun f hf => ?_, State.constant_applyAlu q s, rfl, rfl, rfl, rfl, rfl, [], rfl, rfl⟩
  cases f <;> simp_all

/-- An addition or subtraction touches neither memory nor the history nor the environment's answers, and keeps its frame. -/
theorem State.addWithCarry_frame (m : Byte) (s : State) :
    ArithFrame s (s.addWithCarry m) ∧ (s.addWithCarry m).mem = s.mem ∧ (s.addWithCarry m).history = s.history ∧
      (s.addWithCarry m).answers = s.answers := by
  unfold State.addWithCarry
  split
  · split
    · exact ⟨s.drawDecimal_frame, rfl, rfl, rfl⟩
    · exact ⟨State.applyAlu_frame _ s, rfl, rfl, rfl⟩
  · exact ⟨State.applyAlu_frame _ s, rfl, rfl, rfl⟩

theorem State.subWithBorrow_frame (m : Byte) (s : State) :
    ArithFrame s (s.subWithBorrow m) ∧ (s.subWithBorrow m).mem = s.mem ∧ (s.subWithBorrow m).history = s.history ∧
      (s.subWithBorrow m).answers = s.answers := by
  unfold State.subWithBorrow
  split
  · split
    · exact ⟨s.drawDecimal_frame, rfl, rfl, rfl⟩
    · exact ⟨State.applyAlu_frame _ s, rfl, rfl, rfl⟩
  · exact ⟨State.applyAlu_frame _ s, rfl, rfl, rfl⟩

theorem State.addWithCarry_effect (m : Byte) (s : State) : AdcEffect m (s.flag .c) s.draws s (s.addWithCarry m) := by
  refine ⟨fun hd => ?_, fun hd ho => ?_, fun hd ho => ?_⟩
  · simp only [State.addWithCarry, hd]
    exact ⟨by simpa using addBin_spec s.a m (s.flag .c), znOf_of (by simp) (by simp), rfl⟩
  · rw [← State.decimalIsOpen_iff, Bool.not_eq_true] at ho
    simp only [State.addWithCarry, hd, ho, if_true]
    exact ⟨by simpa using addDec_spec s.a m (s.flag .c), znOf_of (by simp) (by simp), rfl⟩
  · rw [← State.decimalIsOpen_iff] at ho
    simp only [State.addWithCarry, hd, ho, if_true]
    exact ⟨rfl, by simp [State.drawDecimal], by simp [State.drawDecimal], by simp [State.drawDecimal],
      by simp [State.drawDecimal], rfl⟩

theorem State.subWithBorrow_effect (m : Byte) (s : State) : SbcEffect m (s.flag .c) s.draws s (s.subWithBorrow m) := by
  refine ⟨fun hd => ?_, fun hd ho => ?_, fun hd ho => ?_⟩
  · simp only [State.subWithBorrow, hd]
    exact ⟨by simpa using subBin_spec s.a m (s.flag .c), znOf_of (by simp) (by simp), rfl⟩
  · rw [← State.decimalIsOpen_iff, Bool.not_eq_true] at ho
    simp only [State.subWithBorrow, hd, ho, if_true]
    exact ⟨by simpa using subDec_spec s.a m (s.flag .c), znOf_of (by simp) (by simp), rfl⟩
  · rw [← State.decimalIsOpen_iff] at ho
    simp only [State.subWithBorrow, hd, ho, if_true]
    exact ⟨rfl, by simp [State.drawDecimal], by simp [State.drawDecimal], by simp [State.drawDecimal],
      by simp [State.drawDecimal], rfl⟩

/-- The effect of an addition looks at A, D and the parameters of the state before, and at no more. -/
theorem AdcEffect.congr {m : Byte} {c : Bool} {k k' : Nat} {s s' t : State} (h : AdcEffect m c k' s' t) (ha : s'.a = s.a)
    (hd : s'.flag .d = s.flag .d) (hq : s'.params = s.params) (hk : k' = k) : AdcEffect m c k s t := by
  simpa only [AdcEffect, State.OpenDecimal, ha, hd, hq, hk] using h

theorem SbcEffect.congr {m : Byte} {c : Bool} {k k' : Nat} {s s' t : State} (h : SbcEffect m c k' s' t) (ha : s'.a = s.a)
    (hd : s'.flag .d = s.flag .d) (hq : s'.params = s.params) (hk : k' = k) : SbcEffect m c k s t := by
  simpa only [SbcEffect, State.OpenDecimal, ha, hd, hq, hk] using h

/-! ### Shifts -/

theorem asl_spec (v : Byte) : (asl v).r.toNat = v.toNat * 2 % 256 ∧ (asl v).out = v.getLsbD 7 := by
  simp [asl, BitVec.toNat_shiftLeft, Nat.shiftLeft_eq]

theorem lsr_spec (v : Byte) : (lsr v).r.toNat = v.toNat / 2 ∧ (lsr v).out = v.getLsbD 0 := by
  simp [lsr, BitVec.toNat_ushiftRight, Nat.shiftRight_eq_div_pow]

theorem rol_spec (v : Byte) (c : Bool) :
    (rol v c).r.toNat = (v.toNat * 2 + c.toNat) % 256 ∧ (rol v c).out = v.getLsbD 7 := by
  refine ⟨?_, rfl⟩
  revert v
  refine forall_byte fun n => ?_
  fin_cases n <;> cases c <;> rfl

theorem ror_spec (v : Byte) (c : Bool) :
    (ror v c).r.toNat = v.toNat / 2 + 128 * c.toNat ∧ (ror v c).out = v.getLsbD 0 := by
  refine ⟨?_, rfl⟩
  revert v
  refine forall_byte fun n => ?_
  fin_cases n <;> cases c <;> rfl

theorem toNat_inc (v : Byte) : (inc v).toNat = (v.toNat + 1) % 256 := by simp [inc]

theorem toNat_dec (v : Byte) : (dec v).toNat = (v.toNat + 255) % 256 := by
  have := v.isLt
  have h1 : (1 : Byte).toNat = 1 := rfl
  rw [dec, BitVec.toNat_sub, h1]
  omega

end Sys2Proof.Machine
end

