-- ==== Sys2Proof/Laws/Evolve.lean ====
section
/-! SUPPORT. What any step is made of, said once: primitive updates of the state, in sequence. An invariant of every step is
then one induction over `Evolves`, with one small goal per primitive. -/

namespace Sys2Proof.Machine

/-- `t` comes from `s` by primitive updates. -/
inductive Evolves : State → State → Prop where
  /-- Registers other than P, latches, `debt`, the schedule and the scripts take any value. -/
  | data {s t : State} (hp : t.p = s.p) (hm : t.mem = s.mem) (hh : t.history = s.history) (hq : t.params = s.params)
      (ho : t.openCallbacks = s.openCallbacks) : Evolves s t
  /-- Open callbacks go on or return. -/
  | callbacks {s : State} {l : List OpenCallback} (h : ∀ o ∈ l, ∃ q ∈ s.openCallbacks, q.target = o.target) :
      Evolves s { s with openCallbacks := l }
  /-- P is written, bit 5 forced. -/
  | writeP (v : Byte) (s : State) : Evolves s (s.writeP v)
  /-- The core reads a byte. -/
  | read (a : Word) (s : State) : Evolves s (s.afterRead a)
  /-- The core writes a byte. -/
  | write (a : Word) (v : Byte) (s : State) : Evolves s (s.memWrite a v)
  /-- The host reads a byte. -/
  | hostRead (a : Word) (s : State) : Evolves s (s.hostRead a)
  /-- The host writes a byte. -/
  | hostWrite (a : Word) (v : Byte) (s : State) : Evolves s (s.hostWrite a v)
  /-- The trap hook opens at a trap address. -/
  | hook {s : State} {o : OpenCallback} (h : o.target ∈ s.params.traps) :
      Evolves s { s.record (.hook o.target) with openCallbacks := o :: s.openCallbacks }
  /-- The host adds a trap address. -/
  | setpatch (t : Word) (s : State) : Evolves s (s.setpatch t)
  | trans {s t u : State} (h : Evolves s t) (h' : Evolves t u) : Evolves s u

namespace Evolves

theorem refl (s : State) : Evolves s s := .data rfl rfl rfl rfl rfl

theorem setA (v : Byte) (s : State) : Evolves s (s.setA v) := .data rfl rfl rfl rfl rfl
theorem setX (v : Byte) (s : State) : Evolves s (s.setX v) := .data rfl rfl rfl rfl rfl
theorem setY (v : Byte) (s : State) : Evolves s (s.setY v) := .data rfl rfl rfl rfl rfl
theorem setSp (v : Byte) (s : State) : Evolves s (s.setSp v) := .data rfl rfl rfl rfl rfl
theorem setPc (v : Word) (s : State) : Evolves s (s.setPc v) := .data rfl rfl rfl rfl rfl

theorem setFlag (f : Flag) (b : Bool) (s : State) : Evolves s (s.setFlag f b) := .writeP _ _

theorem setZN (r : Byte) (s : State) : Evolves s (s.setZN r) := .trans (.setFlag _ _ _) (.setFlag _ _ _)

theorem compare (reg m : Byte) (s : State) : Evolves s (s.compare reg m) := .trans (.setFlag _ _ _) (.setZN _ _)

theorem bitTest (m : Byte) (s : State) : Evolves s (s.bitTest m) :=
  .trans (.trans (.setFlag _ _ _) (.setFlag _ _ _)) (.setFlag _ _ _)

theorem shiftFlags (q : ShiftResult) (s : State) : Evolves s (s.shiftFlags q) := .trans (.setFlag _ _ _) (.setZN _ _)

theorem applyAlu (q : AluResult) (s : State) : Evolves s (s.applyAlu q) :=
  .trans (.trans (.trans (.setA _ _) (.setFlag _ _ _)) (.setFlag _ _ _)) (.setZN _ _)

theorem drawDecimal (s : State) : Evolves s s.drawDecimal :=
  .trans (.trans (.trans (.trans
    (.data (t := { s with a := (Config.decimalDraw s.draws).r, draws := s.draws + 1 }) rfl rfl rfl rfl rfl)
    (.setFlag _ _ _)) (.setFlag _ _ _)) (.setFlag _ _ _)) (.setFlag _ _ _)

theorem addWithCarry (m : Byte) (s : State) : Evolves s (s.addWithCarry m) := by
  unfold State.addWithCarry
  split
  · split
    · exact .drawDecimal s
    · exact .applyAlu _ _
  · exact .applyAlu _ _

theorem subWithBorrow (m : Byte) (s : State) : Evolves s (s.subWithBorrow m) := by
  unfold State.subWithBorrow
  split
  · split
    · exact .drawDecimal s
    · exact .applyAlu _ _
  · exact .applyAlu _ _

theorem readPair (a b : Word) (s : State) : Evolves s (s.readPair a b).2 := .trans (.read a s) (.read b _)

theorem readPointer (o : Operand) (s : State) : Evolves s (s.readPointer o) := by
  unfold State.readPointer
  split
  · exact .readPair _ _ s
  · exact .refl s

theorem resolve (o : Operand) (s : State) : Evolves s (s.resolve o) :=
  .trans (.readPointer o s) (.data rfl rfl rfl rfl rfl)

theorem load (o : Operand) (s : State) : Evolves s (s.load o).2 := by
  cases o <;> first | exact .refl s | exact .read _ s

theorem store (o : Operand) (v : Byte) (s : State) : Evolves s (s.store o v) := by
  cases o <;> first | exact .write _ _ s | exact .data rfl rfl rfl rfl rfl

theorem resolveLoad (o : Operand) (s : State) : Evolves s ((s.resolve o).load o).2 := .trans (.resolve o s) (.load o _)

theorem push (v : Byte) (s : State) : Evolves s (s.push v) := .trans (.write _ v s) (.data rfl rfl rfl rfl rfl)

theorem push16 (w : Word) (s : State) : Evolves s (s.push16 w) := .trans (.push _ s) (.push _ _)

theorem pull (s : State) : Evolves s s.pull.2 := .trans (.data (t := s.setSp (s.sp + 1)) rfl rfl rfl rfl rfl) (.read _ _)

theorem pull16 (s : State) : Evolves s s.pull16.2 := .trans (.pull s) (.pull _)

theorem enterHandler (ret : Word) (pushed : Byte) (v : Word) (s : State) : Evolves s (s.enterHandler ret pushed v) := by
  unfold State.enterHandler
  exact .trans (.trans (.trans (.trans (.push16 ret s) (.push pushed _)) (.setFlag .i true _)) (.readPair v (v + 1) _))
    (.setPc _ _)

theorem returnFromHandler (s : State) : Evolves s s.returnFromHandler :=
  .trans (.trans (.trans (.pull s) (.writeP _ _)) (.pull16 _)) (.setPc _ _)

theorem openHook {t : Word} (q : Option Word) {s : State} (h : t ∈ s.params.traps) : Evolves s (s.openHook t q) :=
  .trans (.hook (o := { target := t, push := q, calls := s.nextTrap.calls, outcome := s.nextTrap.outcome }) h)
    (.data rfl rfl rfl rfl rfl)

theorem trapTransfer (t : Word) (s : State) : Evolves s (s.trapTransfer t) := by
  unfold State.trapTransfer
  split
  · exact .openHook _ ‹_›
  · exact .setPc _ _

theorem hostRegister (w : RegWrite) (s : State) : Evolves s (s.hostRegister w) := by
  cases w <;> first | exact .writeP _ s | exact .data rfl rfl rfl rfl rfl

theorem trapReturn (o : OpenCallback) (s : State) : Evolves s (s.trapReturn o) := by
  unfold State.trapReturn
  split
  · exact .refl s
  · split
    · exact .setPc _ _
    · exact .trans (.push16 _ s) (.setPc _ _)

theorem branchOn (c : Bool) (o : Operand) (s : State) : Evolves s (branchOn c o s) := by
  unfold Machine.branchOn
  cases c
  · exact .resolve o s
  · exact .trans (.resolve o s) (.data rfl rfl rfl rfl rfl)

theorem jsrOp (o : Operand) (s : State) : Evolves s (jsrOp o s) := by
  unfold Machine.jsrOp
  refine .trans (.resolve o s) ?_
  simp only
  split
  · exact .openHook _ (And.right ‹_›)
  · exact .trans (.push16 _ _) (.trapTransfer _ _)

/-- Every operation is made of primitive updates. -/
theorem opOf (m : Mnemonic) (o : Operand) (s : State) : Evolves s (opOf m o s) := by
  cases m
  case lda => exact .trans (.resolveLoad o s) (.trans (.setA _ _) (.setZN _ _))
  case ldx => exact .trans (.resolveLoad o s) (.trans (.setX _ _) (.setZN _ _))
  case ldy => exact .trans (.resolveLoad o s) (.trans (.setY _ _) (.setZN _ _))
  case sta => exact .trans (.resolve o s) (.write _ _ _)
  case stx => exact .trans (.resolve o s) (.write _ _ _)
  case sty => exact .trans (.resolve o s) (.write _ _ _)
  case tax => exact .trans (.setX _ _) (.setZN _ _)
  case tay => exact .trans (.setY _ _) (.setZN _ _)
  case txa => exact .trans (.setA _ _) (.setZN _ _)
  case tya => exact .trans (.setA _ _) (.setZN _ _)
  case tsx => exact .trans (.setX _ _) (.setZN _ _)
  case txs => exact .data rfl rfl rfl rfl rfl
  case adc => exact .trans (.resolveLoad o s) (.addWithCarry _ _)
  case sbc => exact .trans (.resolveLoad o s) (.subWithBorrow _ _)
  case and => exact .trans (.resolveLoad o s) (.trans (.setA _ _) (.setZN _ _))
  case ora => exact .trans (.resolveLoad o s) (.trans (.setA _ _) (.setZN _ _))
  case eor => exact .trans (.resolveLoad o s) (.trans (.setA _ _) (.setZN _ _))
  case cmp => exact .trans (.resolveLoad o s) (.compare _ _ _)
  case cpx => exact .trans (.resolveLoad o s) (.compare _ _ _)
  case cpy => exact .trans (.resolveLoad o s) (.compare _ _ _)
  case bit => exact .trans (.resolveLoad o s) (.bitTest _ _)
  case inc => exact .trans (.resolve o s) (.trans (.read _ _) (.trans (.write _ _ _) (.setZN _ _)))
  case dec => exact .trans (.resolve o s) (.trans (.read _ _) (.trans (.write _ _ _) (.setZN _ _)))
  case inx => exact .trans (.setX _ _) (.setZN _ _)
  case iny => exact .trans (.setY _ _) (.setZN _ _)
  case dex => exact .trans (.setX _ _) (.setZN _ _)
  case dey => exact .trans (.setY _ _) (.setZN _ _)
  case asl => exact .trans (.resolveLoad o s) (.trans (.shiftFlags _ _) (.store o _ _))
  case lsr => exact .trans (.resolveLoad o s) (.trans (.shiftFlags _ _) (.store o _ _))
  case rol => exact .trans (.resolveLoad o s) (.trans (.shiftFlags _ _) (.store o _ _))
  case ror => exact .trans (.resolveLoad o s) (.trans (.shiftFlags _ _) (.store o _ _))
  case bpl => exact .branchOn _ o s
  case bmi => exact .branchOn _ o s
  case bvc => exact .branchOn _ o s
  case bvs => exact .branchOn _ o s
  case bcc => exact .branchOn _ o s
  case bcs => exact .branchOn _ o s
  case bne => exact .branchOn _ o s
  case beq => exact .branchOn _ o s
  case jmp => exact .trans (.resolve o s) (.trapTransfer _ _)
  case jsr => exact .jsrOp o s
  case rts => exact .trans (.pull16 s) (.data rfl rfl rfl rfl rfl)
  case pha => exact .push _ s
  case pla => exact .trans (.pull s) (.trans (.setA _ _) (.setZN _ _))
  case php => exact .push _ s
  case plp => exact .trans (.pull s) (.writeP _ _)
  case clc => exact .setFlag _ _ s
  case sec => exact .setFlag _ _ s
  case cli => exact .setFlag _ _ s
  case sei => exact .setFlag _ _ s
  case cld => exact .setFlag _ _ s
  case sed => exact .setFlag _ _ s
  case clv => exact .setFlag _ _ s
  case nop => cases o <;> first | exact .refl s | exact .resolveLoad _ s
  case brk => exact .enterHandler _ _ _ s
  case rti => exact .returnFromHandler s
  case slo =>
    exact .trans (.resolve o s) (.trans (.read _ _) (.trans (.shiftFlags _ _) (.trans (.write _ _ _)
      (.trans (.setA _ _) (.setZN _ _)))))
  case rla =>
    exact .trans (.resolve o s) (.trans (.read _ _) (.trans (.shiftFlags _ _) (.trans (.write _ _ _)
      (.trans (.setA _ _) (.setZN _ _)))))
  case sre =>
    exact .trans (.resolve o s) (.trans (.read _ _) (.trans (.shiftFlags _ _) (.trans (.write _ _ _)
      (.trans (.setA _ _) (.setZN _ _)))))
  case rra =>
    exact .trans (.resolve o s) (.trans (.read _ _) (.trans (.shiftFlags _ _) (.trans (.write _ _ _) (.addWithCarry _ _))))
  case sax => exact .trans (.resolve o s) (.write _ _ _)
  case lax => exact .trans (.resolve o s) (.trans (.read _ _) (.trans (.trans (.setA _ _) (.setX _ _)) (.setZN _ _)))
  case dcp => exact .trans (.resolve o s) (.trans (.read _ _) (.trans (.write _ _ _) (.compare _ _ _)))
  case isb => exact .trans (.resolve o s) (.trans (.read _ _) (.trans (.write _ _ _) (.subWithBorrow _ _)))
  all_goals exact .refl s

theorem exec {i : Instr} {s t : State} (h : exec i s = .next t) : Evolves s t :=
  (exec_next h).2 ▸ .opOf _ _ s

theorem fetchByte (s : State) : Evolves s s.fetchByte.2 := .trans (.read _ s) (.data rfl rfl rfl rfl rfl)

theorem fetch (s : State) : Evolves s s.fetch.2 := by
  unfold State.fetch
  refine .trans (.fetchByte s) (.trans (.data (t := s.fetchByte.2.setOpcode s.fetchByte.1) rfl rfl rfl rfl rfl) ?_)
  simp only
  split
  · exact .refl _
  · exact .fetchByte _
  · exact .trans (.fetchByte _) (.fetchByte _)

theorem coreStep {s t : State} (h : coreStep s = .next t) : Evolves s t := by
  obtain ⟨u, hu, rfl⟩ := settled_next h
  exact .trans (.fetch s) (.trans (.exec hu) (.data rfl rfl rfl rfl rfl))

theorem irq (s : State) : Evolves s s.irq := by
  unfold State.irq
  split
  · exact .refl s
  · exact .enterHandler _ _ _ s

theorem hostReset (s : State) : Evolves s s.hostReset :=
  .trans (.readPair _ _ s) (.trans (.writeP (Config.resetDraw s.draws).p _) (.data rfl rfl rfl rfl rfl))

/-- Every call of the environment is made of primitive updates. -/
theorem hostStep {c : HostCall} {s t : State} (h : hostStep c s = .next t) : Evolves s t := by
  cases c
  case fastclock => exact .coreStep h
  case clock runs =>
    cases runs
    · injection h with h; exact h ▸ .data rfl rfl rfl rfl rfl
    · exact .coreStep h
  all_goals
    injection h with h
    subst h
  case irq => exact .irq s
  case nmi => exact .enterHandler _ _ _ s
  case reset => exact .hostReset s
  case peek => exact .hostRead _ s
  case poke => exact .hostWrite _ _ s
  case setpatch => exact .setpatch _ s

/-- An open callback's next call is used up. -/
theorem goOn {s : State} {o : OpenCallback} {os : List OpenCallback} (cs : List CallbackCall) (ho : s.openCallbacks = o :: os) :
    Evolves s { s with openCallbacks := { o with calls := cs } :: os } := by
  refine .callbacks fun q hq => ?_
  rw [ho]
  rcases List.mem_cons.mp hq with rfl | hq
  · exact ⟨o, List.mem_cons_self, rfl⟩
  · exact ⟨q, List.mem_cons_of_mem _ hq, rfl⟩

/-- A call of the environment is used up. -/
theorem due {c : HostCall} {s u : State} (h : Due c s u) : Evolves s u := by
  rcases h with ⟨o, cs, os, ho, -, rfl⟩ | ⟨ho, rest, -, rfl⟩
  · exact .goOn cs ho
  · exact .data rfl rfl rfl rfl rfl

/-- Every step is made of primitive updates. -/
theorem step {s t : State} (h : step s = .next t) : Evolves s t := by
  rcases step_cases s with hs | ⟨c, u, hd⟩ | ⟨o, os, cs, w, ho, hc⟩ | ⟨o, os, ho, hc⟩
  · exact .coreStep (step_idle hs ▸ h)
  · exact .trans (.due hd) (.hostStep (step_due hd ▸ h))
  · rw [step_write ho hc] at h
    injection h with h
    exact h ▸ .trans (.goOn cs ho) (.hostRegister w _)
  · rw [step_return ho hc] at h
    injection h with h
    exact h ▸ .trans (.callbacks fun q hq => ⟨q, ho ▸ List.mem_cons_of_mem _ hq, rfl⟩)
      (.trans (.trapReturn o _) (.data rfl rfl rfl rfl rfl))

end Evolves

end Sys2Proof.Machine
end

