-- ==== Sys2Proof/Laws/Stack.lean ====
section
/-! SUPPORT. The stack, the entry into a handler and the trap hook, in the words of Safety (00_scope.md R14, 60_exceptions.md
R423 to R426, R440, R441). -/

namespace Sys2Proof.Machine

theorem sub_one_one (b : Byte) : b - 1 - 1 = b - 2 := by rw [BitVec.sub_sub]; rfl
theorem sub_two_one (b : Byte) : b - 2 - 1 = b - 3 := by rw [BitVec.sub_sub]; rfl
theorem add_one_one (b : Byte) : b + 1 + 1 = b + 2 := by rw [BitVec.add_assoc]; rfl
theorem add_two_one (b : Byte) : b + 2 + 1 = b + 3 := by rw [BitVec.add_assoc]; rfl

/-- The three stack bytes of an entry stand at three addresses. -/
theorem stackAddr_ne (b : Byte) :
    stackAddr b ≠ stackAddr (b - 1) ∧ stackAddr b ≠ stackAddr (b - 2) ∧ stackAddr (b - 1) ≠ stackAddr (b - 2) := by
  simp only [ne_eq, stackAddr_inj]
  have hb := b.isLt
  refine ⟨fun h => ?_, fun h => ?_, fun h => ?_⟩
  all_goals
    have := congrArg BitVec.toNat h
    simp only [BitVec.toNat_sub, show (1 : Byte).toNat = 1 from rfl, show (2 : Byte).toNat = 2 from rfl] at this
    omega

/-- A byte of memory after a push. -/
theorem State.read_push (v : Byte) (a : Word) {s : State} (hw : Memory.wf s.mem = true) :
    (s.push v).mem.read a = if s.envOwns a then s.mem.read a else if a = stackAddr s.sp then v else s.mem.read a := by
  rw [State.push_mem, State.read_pokeMem _ a v hw]
  by_cases h : a = stackAddr s.sp
  · subst h
    cases s.envOwns (stackAddr s.sp) <;> simp
  · simp [h]

theorem State.wf_push (v : Byte) {s : State} (hw : Memory.wf s.mem = true) : Memory.wf (s.push v).mem = true :=
  State.wf_pokeMem _ v hw

theorem AnswersUsed.push (v : Byte) (s : State) : AnswersUsed s (s.push v) :=
  .trans (.write _ v s) (.of_eq rfl rfl rfl) rfl

theorem State.push16_pushed (w : Word) {s : State} (hw : Memory.wf s.mem = true) : Pushed16 w s (s.push16 w) := by
  obtain ⟨h1, -, -⟩ := stackAddr_ne s.sp
  have hu : AnswersUsed s (s.push16 w) := .trans (.push _ s) (.push _ _) rfl
  have hm : ∀ a, (s.push16 w).mem.read a =
      if s.envOwns a then s.mem.read a
      else if a = stackAddr s.sp then hi8 w
      else if a = stackAddr (s.sp - 1) then lo8 w else s.mem.read a := fun a => by
    rw [State.push16, State.read_push _ a (State.wf_push _ hw), State.read_push _ a hw]
    simp only [State.push_envOwns, State.push_sp]
    split_ifs <;> simp_all
  refine ⟨rfl, sub_one_one _, fun h => ?_, fun h => ?_, fun a ha hb => ?_, rfl, fun r hr => ?_, fun f _ => rfl, rfl, rfl, rfl,
    rfl, rfl, rfl, hu⟩
  · simp [hm, h]
  · rw [hm, h, if_neg (by decide), if_neg h1.symm, if_pos rfl]
  · rw [hm, if_neg ha, if_neg hb, ite_self]
  · cases r
    case sp => exact absurd (List.mem_singleton.2 rfl) hr
    all_goals rfl

/-- An address outside page 1 is no stack address. -/
theorem ne_stackAddr {a : Word} (h : a.toNat < 256 ∨ 512 ≤ a.toNat) (b : Byte) : a ≠ stackAddr b := by
  intro he
  have := congrArg BitVec.toNat he
  have hb := b.isLt
  rw [toNat_stackAddr] at this
  omega

/-- The reads of the vector see the memory and the environment from before the pushes, which lie in page 1. -/
theorem State.peekValue_entryPushes (ret : Word) (pushed : Byte) {v : Word} {s : State} (hw : Memory.wf s.mem = true)
    (h0 : v.toNat < 256 ∨ 512 ≤ v.toNat) : (s.entryPushes ret pushed).peekValue v = s.peekValue v := by
  have hm : (s.entryPushes ret pushed).mem.read v = s.mem.read v := by
    rw [State.entryPushes, State.push16, State.read_push _ v (State.wf_push _ (State.wf_push _ hw)),
      State.read_push _ v (State.wf_push _ hw), State.read_push _ v hw]
    simp [ne_stackAddr h0]
  unfold State.peekValue
  rw [hm]
  rfl

/-- Two reads in the same environment after the same first read. -/
theorem State.peekValue_afterRead_congr {a b : Word} {s t : State} (hq : t.params = s.params) (hn : t.answers = s.answers)
    (hd : t.draws = s.draws) (hm : t.mem.read b = s.mem.read b) : (t.afterRead a).peekValue b = (s.afterRead a).peekValue b := by
  have hw : ∀ k, t.envOwns k = s.envOwns k := fun k => by unfold State.envOwns; rw [hq]
  simp only [State.peekValue, State.afterRead_answers, State.afterRead_draws, State.afterRead_mem, State.afterRead_envOwns,
    State.answersLeft, State.drawsLeft, hw, hn, hd, hm]
  rfl

theorem State.enterHandler_entered (ret : Word) (pushed : Byte) (v : Word) {s : State} (hw : Memory.wf s.mem = true)
    (h0 : v.toNat < 256 ∨ 512 ≤ v.toNat) (h1 : (v + 1).toNat < 256 ∨ 512 ≤ (v + 1).toNat) :
    HandlerEntered ret pushed v s (s.enterHandler ret pushed v) := by
  have hlo := State.peekValue_entryPushes ret pushed hw h0
  have hmem : ∀ a, (s.entryPushes ret pushed).mem.read a =
      if s.envOwns a then s.mem.read a
      else if a = stackAddr s.sp then hi8 ret
      else if a = stackAddr (s.sp - 1) then lo8 ret
      else if a = stackAddr (s.sp - 2) then pushed else s.mem.read a := fun a => by
    obtain ⟨n1, n2, n3⟩ := stackAddr_ne s.sp
    rw [State.entryPushes, State.push16, State.read_push _ a (State.wf_push _ (State.wf_push _ hw)),
      State.read_push _ a (State.wf_push _ hw), State.read_push _ a hw]
    simp only [State.push_envOwns, State.push_sp, sub_one_one]
    split_ifs <;> simp_all
  have hhi : ((s.entryPushes ret pushed).afterRead v).peekValue (v + 1) = (s.afterRead v).peekValue (v + 1) :=
    State.peekValue_afterRead_congr rfl rfl rfl (by
      simp only [hmem, if_neg (ne_stackAddr h1 _), ite_self])
  have hp3 : AnswersUsed s (s.entryPushes ret pushed) := .trans (.trans (.push _ s) (.push _ _) rfl) (.push pushed _) rfl
  have hr2 : AnswersUsed s ((s.entryPushes ret pushed).afterReads [v, v + 1]) := hp3.trans (.reads _ _) rfl
  have hu : AnswersUsed s (s.enterHandler ret pushed v) := by
    rw [State.enterHandler_eq]
    obtain ⟨es, h1, h2, h3⟩ := hr2
    exact ⟨es, h1, h2, h3⟩
  have hf := State.flag_enterHandler ret pushed v (s := s)
  have hp := State.constant_enterHandler ret pushed v s
  obtain ⟨n1, n2, n3⟩ := stackAddr_ne s.sp
  refine ⟨?_, fun h => ?_, fun h => ?_, fun h => ?_, fun a ha hb hc => ?_, ?_, (hf .i).trans (if_pos rfl),
    ⟨fun r hr => ?_, fun f hf' => ?_, hp, by simp, by simp, by simp, by simp, by simp, hu⟩, ?_⟩
  · rw [State.enterHandler_sp, BitVec.sub_sub, BitVec.sub_sub]
    rfl
  · rw [State.enterHandler_mem, hmem, h, if_neg (by decide), if_pos rfl]
  · rw [State.enterHandler_mem, hmem, h, if_neg (by decide), if_neg n1.symm, if_pos rfl]
  · rw [State.enterHandler_mem, hmem, h, if_neg (by decide), if_neg n2.symm, if_neg n3.symm, if_pos rfl]
  · rw [State.enterHandler_mem, hmem, if_neg ha, if_neg hb, if_neg hc, ite_self]
  · rw [State.enterHandler_eq]
    simp only [hlo, hhi]
  · cases r
    case sp => exact absurd (List.mem_singleton.2 rfl) hr
    all_goals simp [State.reg]
  · rw [hf f, if_neg fun h : f = .i => hf' (List.mem_singleton.2 h)]
  · rw [State.enterHandler_eq, State.afterReads_history]
    show Event.read (v + 1) (((s.entryPushes ret pushed).afterRead v).peekValue (v + 1)) ::
      Event.read v ((s.entryPushes ret pushed).peekValue v) ::
      Event.write (stackAddr (s.sp - 1 - 1)) pushed :: Event.write (stackAddr (s.sp - 1)) (lo8 ret) ::
      Event.write (stackAddr s.sp) (hi8 ret) :: s.history = _
    rw [hlo, hhi, sub_one_one]
    rfl

/-! ### JSR and the trap hook -/

/-- JSR to an address that is no trap: push and go. -/
theorem jsrOp_untrapped (w : Word) (s : State) (h : w ∉ s.params.traps) :
    jsrOp (.abs w) s = ((s.setEa w).push16 (s.pc - 1)).setPc w := by
  have hr : s.resolve (.abs w) = s.setEa w := rfl
  have hq : ((s.setEa w).push16 (s.pc - 1)).params = s.params := rfl
  simp only [jsrOp, hr, State.setEa_ea, State.setEa_params, State.setEa_pc, h, and_false, if_false, State.trapTransfer, hq]

/-- JSR to a trap address under PushThenHook: push, then the hook. -/
theorem jsrOp_pushThenHook (w : Word) (s : State) (h : w ∈ s.params.traps) (ho : s.params.trapJsrOrder = .pushThenHook) :
    jsrOp (.abs w) s = ((s.setEa w).push16 (s.pc - 1)).openHook w none := by
  have hr : s.resolve (.abs w) = s.setEa w := rfl
  have hq : ((s.setEa w).push16 (s.pc - 1)).params = s.params := rfl
  simp only [jsrOp, hr, State.setEa_ea, State.setEa_params, State.setEa_pc, h, ho, State.trapTransfer, hq, if_true]
  rw [if_neg (fun hc => TrapJsrOrder.noConfusion hc.1)]

/-- JSR to a trap address under HookThenPush: the hook, with the push left to its return. -/
theorem jsrOp_hookThenPush (w : Word) (s : State) (h : w ∈ s.params.traps) (ho : s.params.trapJsrOrder = .hookThenPush) :
    jsrOp (.abs w) s = (s.setEa w).openHook w (some (s.pc - 1)) := by
  have hr : s.resolve (.abs w) = s.setEa w := rfl
  simp only [jsrOp, hr, State.setEa_ea, State.setEa_params, State.setEa_pc, h, ho, and_self, if_true]

/-- What the opening of the hook does. -/
theorem State.openHook_opened (w : Word) (q : Option Word) (s : State) : HookOpened w q s (s.openHook w q) := by
  simp only [HookOpened, State.openHook, List.isEmpty_iff]

/-- All that a transfer through the hook can do. -/
theorem State.trapTransfer_cases (w : Word) (s : State) :
    (w ∉ s.params.traps ∧ s.trapTransfer w = s.setPc w) ∨
    (w ∈ s.params.traps ∧ HookOpened w none s (s.trapTransfer w)) := by
  unfold State.trapTransfer
  split
  · exact .inr ⟨‹_›, State.openHook_opened w none s⟩
  · exact .inl ⟨‹_›, rfl⟩

end Sys2Proof.Machine
end

