-- ==== Sys2Proof/Tests/Slice0.lean ====
section
/-! SUPPORT. The model's own tests: ill-formed terms, decoding, one step each on small states, and a witness for the hypotheses of
every statement. Expected results are the spec's: the encoding lines of its rules and its worked examples
(95_test_vectors.md). -/

namespace Sys2Proof.Tests

open Sys2Proof Sys2Proof.Machine

/-! ## Small states -/

/-- The start state of the spec's vectors: PC aside, that of State.reset, with no access recorded yet. -/
def start : State := { State.reset with history := [] }

/-- A state with cells of memory written. -/
def withMem (cells : List (Word × Byte)) (s : State) : State :=
  { s with mem := cells.foldl (fun m c => m.write c.1 c.2) s.mem }

/-- A state with an instruction's bytes at PC. -/
def place (pc : Word) (bytes : List Byte) (s : State) : State := { s with pc := pc, mem := Memory.store pc bytes s.mem }

/-- What is observed of a next state. -/
def observe {α : Type} (f : State → α) : Outcome → Option α
  | .next t => some (f t)
  | .fault _ => none
  | .refused _ => none

/-- The refusal of an outcome. -/
def refusal : Outcome → Option Refusal
  | .next _ => none
  | .fault _ => none
  | .refused r => some r

/-- The addresses of all accesses, in order. -/
def addresses (s : State) : List Word :=
  s.history.reverse.map fun e => match e with
    | .read a _ | .write a _ | .hostRead a _ | .hostWrite a _ | .hook a => a

/-! ## One step on the spec's vectors -/

/-- Vector A1 of 95_test_vectors.md (rule R143). -/
theorem test_ldaImm_A1 :
  observe (fun t => (t.a, addresses t)) (step (place 0x0200 [0xA9, 0x7F] start)) = some (0x7F, [0x0200, 0x0201]) := by decide

/-- Vector A2 of 95_test_vectors.md (rule R144). -/
theorem test_ldaZp_A2 :
  observe (fun t => (t.a, t.p, addresses t))
      (step (place 0x0200 [0xA5, 0x42] (withMem [(0x0042, 0x99)] start))) =
    some (0x99, 0xA0, [0x0200, 0x0201, 0x0042]) := by decide

/-- Vector A3 of 95_test_vectors.md (rule R145). -/
theorem test_ldaZpx_A3 :
  observe (fun t => (t.a, addresses t))
      (step (place 0x0200 [0xB5, 0xF0] (withMem [(0x0000, 0x33)] { start with x := 0x10 }))) =
    some (0x33, [0x0200, 0x0201, 0x0000]) := by decide

/-- Vector A4 of 95_test_vectors.md (rule R146). -/
theorem test_ldxZpy_A4 :
  observe (fun t => (t.x, addresses t))
      (step (place 0x0200 [0xB6, 0xFF] (withMem [(0x0001, 0x44)] { start with y := 0x02 }))) =
    some (0x44, [0x0200, 0x0201, 0x0001]) := by decide

/-- Vector A5 of 95_test_vectors.md (rule R147). -/
theorem test_ldaAbs_A5 :
  observe (fun t => (t.a, addresses t))
      (step (place 0x0200 [0xAD, 0x34, 0x12] (withMem [(0x1234, 0x55)] start))) =
    some (0x55, [0x0200, 0x0201, 0x0202, 0x1234]) := by decide

/-- Vector A6 of 95_test_vectors.md (rule R148). -/
theorem test_ldaAbsx_A6 :
  observe (fun t => (t.a, addresses t))
      (step (place 0x0200 [0xBD, 0xFF, 0x12] (withMem [(0x1300, 0x66)] { start with x := 0x01 }))) =
    some (0x66, [0x0200, 0x0201, 0x0202, 0x1300]) := by decide

/-- Vector A7 of 95_test_vectors.md (rule R149). -/
theorem test_ldaAbsy_A7 :
  observe (fun t => (t.a, addresses t))
      (step (place 0x0200 [0xB9, 0xF5, 0xFF] (withMem [(0x0005, 0x77)] { start with y := 0x10 }))) =
    some (0x77, [0x0200, 0x0201, 0x0202, 0x0005]) := by decide

/-- Vector A8 of 95_test_vectors.md (rule R150). -/
theorem test_ldaIndx_A8 :
  observe (fun t => (t.a, t.p, addresses t))
      (step (place 0x0200 [0xA1, 0xFF] (withMem [(0x0000, 0x30), (0x00FF, 0x00), (0x3000, 0x88)] start))) =
    some (0x88, 0xA0, [0x0200, 0x0201, 0x00FF, 0x0000, 0x3000]) := by decide

/-- Vector A10 of 95_test_vectors.md (rule R151). -/
theorem test_ldaIndy_A10 :
  observe (fun t => (t.a, t.p, addresses t))
      (step (place 0x0200 [0xB1, 0x40] (withMem [(0x0040, 0xF0), (0x0041, 0x20), (0x2110, 0x9A)] { start with y := 0x20 }))) =
    some (0x9A, 0xA0, [0x0200, 0x0201, 0x0040, 0x0041, 0x2110]) := by decide

/-- Vector A11 of 95_test_vectors.md (rule R151). -/
theorem test_ldaIndy_A11 :
  observe (fun t => (t.a, t.p, addresses t))
      (step (place 0x0200 [0xB1, 0xFF] (withMem [(0x0000, 0x40), (0x00FF, 0x00), (0x4001, 0xAB)] { start with y := 0x01 }))) =
    some (0xAB, 0xA0, [0x0200, 0x0201, 0x00FF, 0x0000, 0x4001]) := by decide

/-- Vector A12 of 95_test_vectors.md (rule R152). -/
theorem test_jmpInd_A12 :
  observe (fun t => (t.pc, addresses t))
      (step (place 0x0200 [0x6C, 0xFF, 0x10] (withMem [(0x1000, 0x12), (0x10FF, 0x34), (0x1100, 0x56)] start))) =
    some (0x1234, [0x0200, 0x0201, 0x0202, 0x10FF, 0x1000]) := by decide

/-- Vector A13 of 95_test_vectors.md (rule R153). -/
theorem test_beqRel_A13 :
  observe (fun t => (t.pc, addresses t))
      (step (place 0x0300 [0xF0, 0x80] { start with p := 0x22 })) =
    some (0x0282, [0x0300, 0x0301]) := by decide

/-- Vector A14 of 95_test_vectors.md (rule R148). -/
theorem test_ldaAbsx_A14 :
  observe (fun t => (t.a, t.p, addresses t))
      (step (place 0x0200 [0xBD, 0xFF, 0xFF] (withMem [(0x0000, 0xCC)] { start with x := 0x01 }))) =
    some (0xCC, 0xA0, [0x0200, 0x0201, 0x0202, 0x0000]) := by decide

/-- Vector L3 of 95_test_vectors.md (rule R171). -/
theorem test_adcImm_L3 :
  observe (fun t => (t.a, t.p)) (step (place 0x0200 [0x69, 0x80] { start with a := 0x80 })) = some (0x00, 0x63) := by decide

/-- Vector L5 of 95_test_vectors.md (rule R172). -/
theorem test_sbcImm_L5 :
  observe (fun t => (t.a, t.p))
      (step (place 0x0200 [0xE9, 0xB0] { start with a := 0x50, p := 0x21 })) =
    some (0xA0, 0xE0) := by decide

/-- Vector L6 of 95_test_vectors.md (rule R172). -/
theorem test_sbcImm_L6 :
  observe (fun t => (t.a, t.p)) (step (place 0x0200 [0xE9, 0x00] start)) = some (0xFF, 0xA0) := by decide

/-- Vector L8 of 95_test_vectors.md (rule R173). -/
theorem test_adcImm_L8 :
  observe (fun t => (t.a, t.p))
      (step (place 0x0200 [0x69, 0x01] { start with a := 0x99, p := 0x28 })) =
    some (0x00, 0x2B) := by decide

/-- Vector L11 of 95_test_vectors.md (rule R174). -/
theorem test_sbcImm_L11 :
  observe (fun t => (t.a, t.p)) (step (place 0x0200 [0xE9, 0x01] { start with p := 0x29 })) = some (0x99, 0xA8) := by decide

/-- Vector L13 of 95_test_vectors.md (rule R174). -/
theorem test_sbcImm_L13 :
  observe (fun t => (t.a, t.p))
      (step (place 0x0200 [0xE9, 0x13] { start with a := 0x40, p := 0x28 })) =
    some (0x26, 0x29) := by decide

/-- Vector L15 of 95_test_vectors.md (rules R173, R186). -/
theorem test_adcImm_L15 :
  observe (fun t => (t.a, t.p))
      (step (place 0x0200 [0x69, 0x01] { start with a := 0x0F, p := 0x28 })) =
    some (0x16, 0x28) := by decide

/-- Vector L17 of 95_test_vectors.md (rule R173). -/
theorem test_adcImm_L17 :
  observe (fun t => (t.a, t.p))
      (step (place 0x0200 [0x69, 0x38] { start with a := 0x45, p := 0x28 })) =
    some (0x83, 0xE8) := by decide

/-- Vector L18 of 95_test_vectors.md (rules R174, R186). -/
theorem test_sbcImm_L18 :
  observe (fun t => (t.a, t.p))
      (step (place 0x0200 [0xE9, 0x0A] { start with a := 0x10, p := 0x29 })) =
    some (0x00, 0x2B) := by decide

/-- Vector M1 of 95_test_vectors.md (rule R200). -/
theorem test_ldaImm_M1 :
  observe (fun t => t.p) (step (place 0x0200 [0xA9, 0x00] start)) = some 0x22 := by decide

/-- Vector M3 of 95_test_vectors.md (rule R201). -/
theorem test_ldxImm_M3 :
  observe (fun t => (t.x, t.p)) (step (place 0x0200 [0xA2, 0xFF] start)) = some (0xFF, 0xA0) := by decide

/-- Vector M4 of 95_test_vectors.md (rule R202). -/
theorem test_ldyImm_M4 :
  observe (fun t => t.y) (step (place 0x0200 [0xA0, 0x01] start)) = some 0x01 := by decide

/-- Vector M5 of 95_test_vectors.md (rule R203). -/
theorem test_staAbsy_M5 :
  observe (fun t => (t.mem.read 0x1303, addresses t))
      (step (place 0x0200 [0x99, 0xFE, 0x12] { start with a := 0x5A, y := 0x05 })) =
    some (0x5A, [0x0200, 0x0201, 0x0202, 0x1303]) := by decide

/-- Vector M6 of 95_test_vectors.md (rule R204). -/
theorem test_stxZpy_M6 :
  observe (fun t => t.mem.read 0x00FF) (step (place 0x0200 [0x96, 0xFF] { start with x := 0x11 })) = some 0x11 := by decide

/-- Vector M7 of 95_test_vectors.md (rule R205). -/
theorem test_styAbs_M7 :
  observe (fun t => t.mem.read 0x0400)
      (step (place 0x0200 [0x8C, 0x00, 0x04] { start with y := 0x22 })) =
    some 0x22 := by decide

/-- Vector M8 of 95_test_vectors.md (rule R206). -/
theorem test_tax_M8 :
  observe (fun t => (t.x, t.p)) (step (place 0x0200 [0xAA] { start with a := 0x80 })) = some (0x80, 0xA0) := by decide

/-- Vector M9 of 95_test_vectors.md (rule R207). -/
theorem test_tay_M9 :
  observe (fun t => (t.y, t.p)) (step (place 0x0200 [0xA8] { start with y := 0x05 })) = some (0x00, 0x22) := by decide

/-- Vector M10 of 95_test_vectors.md (rule R208). -/
theorem test_txa_M10 :
  observe (fun t => t.a) (step (place 0x0200 [0x8A] { start with x := 0x7F })) = some 0x7F := by decide

/-- Vector M11 of 95_test_vectors.md (rule R209). -/
theorem test_tya_M11 :
  observe (fun t => (t.a, t.p)) (step (place 0x0200 [0x98] { start with y := 0xFF })) = some (0xFF, 0xA0) := by decide

/-- Vector M12 of 95_test_vectors.md (rule R210). -/
theorem test_tsx_M12 :
  observe (fun t => t.p) (step (place 0x0200 [0xBA] { start with sp := 0x00 })) = some 0x22 := by decide

/-- Vector M13 of 95_test_vectors.md (rule R211). -/
theorem test_txs_M13 :
  observe (fun t => t.sp) (step (place 0x0200 [0x9A] { start with x := 0x80, p := 0x22 })) = some 0x80 := by decide

/-- Vector N1 of 95_test_vectors.md (rule R240). -/
theorem test_adcZp_N1 :
  observe (fun t => (t.a, t.p))
      (step (place 0x0200 [0x65, 0x10] (withMem [(0x0010, 0x01)] { start with a := 0x01, p := 0x21 }))) =
    some (0x03, 0x20) := by decide

/-- Vector N3 of 95_test_vectors.md (rule R242). -/
theorem test_andImm_N3 :
  observe (fun t => (t.a, t.p)) (step (place 0x0200 [0x29, 0x0F] { start with a := 0xF0 })) = some (0x00, 0x22) := by decide

/-- Vector N4 of 95_test_vectors.md (rule R243). -/
theorem test_oraImm_N4 :
  observe (fun t => (t.a, t.p)) (step (place 0x0200 [0x09, 0x01] { start with a := 0x80 })) = some (0x81, 0xA0) := by decide

/-- Vector N5 of 95_test_vectors.md (rule R244). -/
theorem test_eorImm_N5 :
  observe (fun t => (t.a, t.p)) (step (place 0x0200 [0x49, 0xFF] { start with a := 0xFF })) = some (0x00, 0x22) := by decide

/-- Vector N6 of 95_test_vectors.md (rule R245). -/
theorem test_cmpImm_N6 :
  observe (fun t => t.p) (step (place 0x0200 [0xC9, 0x40] { start with a := 0x40 })) = some 0x23 := by decide

/-- Vector N7 of 95_test_vectors.md (rule R245). -/
theorem test_cmpImm_N7 :
  observe (fun t => t.p) (step (place 0x0200 [0xC9, 0x41] { start with a := 0x40 })) = some 0xA0 := by decide

/-- Vector N9 of 95_test_vectors.md (rule R246). -/
theorem test_cpxImm_N9 :
  observe (fun t => t.p) (step (place 0x0200 [0xE0, 0x01] { start with x := 0x10 })) = some 0x21 := by decide

/-- Vector N10 of 95_test_vectors.md (rule R247). -/
theorem test_cpyImm_N10 :
  observe (fun t => t.p) (step (place 0x0200 [0xC0, 0x00] start)) = some 0x23 := by decide

/-- Vector N11 of 95_test_vectors.md (rule R248). -/
theorem test_bitZp_N11 :
  observe (fun t => t.p)
      (step (place 0x0200 [0x24, 0x20] (withMem [(0x0020, 0xC0)] { start with a := 0x01 }))) =
    some 0xE2 := by decide

/-- Vector N12 of 95_test_vectors.md (rule R248). -/
theorem test_bitAbs_N12 :
  observe (fun t => t.p)
      (step (place 0x0200 [0x2C, 0x34, 0x12] (withMem [(0x1234, 0x01)] { start with a := 0xFF, p := 0xE2 }))) =
    some 0x20 := by decide

/-- Vector N13 of 95_test_vectors.md (rule R249). -/
theorem test_incZp_N13 :
  observe (fun t => (t.p, t.mem.read 0x0010, addresses t))
      (step (place 0x0200 [0xE6, 0x10] (withMem [(0x0010, 0xFF)] start))) =
    some (0x22, 0x00, [0x0200, 0x0201, 0x0010, 0x0010]) := by decide

/-- Vector N14 of 95_test_vectors.md (rule R250). -/
theorem test_decZpx_N14 :
  observe (fun t => (t.p, t.mem.read 0x0011))
      (step (place 0x0200 [0xD6, 0x10] (withMem [(0x0011, 0x00)] { start with x := 0x01 }))) =
    some (0xA0, 0xFF) := by decide

/-- Vector N15 of 95_test_vectors.md (rule R251). -/
theorem test_inx_N15 :
  observe (fun t => (t.x, t.p)) (step (place 0x0200 [0xE8] { start with x := 0xFF })) = some (0x00, 0x22) := by decide

/-- Vector N16 of 95_test_vectors.md (rule R252). -/
theorem test_iny_N16 :
  observe (fun t => (t.y, t.p)) (step (place 0x0200 [0xC8] { start with y := 0x7F })) = some (0x80, 0xA0) := by decide

/-- Vector N17 of 95_test_vectors.md (rule R253). -/
theorem test_dex_N17 :
  observe (fun t => (t.x, t.p)) (step (place 0x0200 [0xCA] start)) = some (0xFF, 0xA0) := by decide

/-- Vector N18 of 95_test_vectors.md (rule R254). -/
theorem test_dey_N18 :
  observe (fun t => (t.y, t.p)) (step (place 0x0200 [0x88] { start with y := 0x01 })) = some (0x00, 0x22) := by decide

/-- Vector S1 of 95_test_vectors.md (rule R270). -/
theorem test_aslAcc_S1 :
  observe (fun t => (t.a, t.p)) (step (place 0x0200 [0x0A] { start with a := 0x80 })) = some (0x00, 0x23) := by decide

/-- Vector S2 of 95_test_vectors.md (rule R270). -/
theorem test_aslZp_S2 :
  observe (fun t => (t.p, t.mem.read 0x0010))
      (step (place 0x0200 [0x06, 0x10] (withMem [(0x0010, 0x41)] start))) =
    some (0xA0, 0x82) := by decide

/-- Vector S3 of 95_test_vectors.md (rule R271). -/
theorem test_lsrAcc_S3 :
  observe (fun t => (t.a, t.p)) (step (place 0x0200 [0x4A] { start with a := 0x01 })) = some (0x00, 0x23) := by decide

/-- Vector S4 of 95_test_vectors.md (rule R271). -/
theorem test_lsrAbsx_S4 :
  observe (fun t => (t.p, t.mem.read 0x1301))
      (step (place 0x0200 [0x5E, 0x00, 0x13] (withMem [(0x1301, 0xFF)] { start with x := 0x01 }))) =
    some (0x21, 0x7F) := by decide

/-- Vector S5 of 95_test_vectors.md (rule R272). -/
theorem test_rolAcc_S5 :
  observe (fun t => (t.a, t.p)) (step (place 0x0200 [0x2A] { start with a := 0x80 })) = some (0x00, 0x23) := by decide

/-- Vector S6 of 95_test_vectors.md (rule R272). -/
theorem test_rolAcc_S6 :
  observe (fun t => (t.a, t.p))
      (step (place 0x0200 [0x2A] { start with a := 0x40, p := 0x21 })) =
    some (0x81, 0xA0) := by decide

/-- Vector S7 of 95_test_vectors.md (rule R273). -/
theorem test_rorAcc_S7 :
  observe (fun t => (t.a, t.p)) (step (place 0x0200 [0x6A] { start with a := 0x01 })) = some (0x00, 0x23) := by decide

/-- Vector S8 of 95_test_vectors.md (rule R273). -/
theorem test_rorAcc_S8 :
  observe (fun t => (t.a, t.p)) (step (place 0x0200 [0x6A] { start with p := 0x21 })) = some (0x80, 0xA0) := by decide

/-- Vector S9 of 95_test_vectors.md (rule R273). -/
theorem test_rorZpx_S9 :
  observe (fun t => t.mem.read 0x0000)
      (step (place 0x0200 [0x76, 0xF0] (withMem [(0x0000, 0x02)] { start with x := 0x10 }))) =
    some 0x01 := by decide

/-- Vector B1 of 95_test_vectors.md (rule R301). -/
theorem test_bplRel_B1 :
  observe (fun t => t.pc) (step (place 0x0200 [0x10, 0x10] start)) = some 0x0212 := by decide

/-- Vector B2 of 95_test_vectors.md (rule R302). -/
theorem test_bmiRel_B2 :
  observe (fun t => t.pc) (step (place 0x0200 [0x30, 0xFC] { start with p := 0xA0 })) = some 0x01FE := by decide

/-- Vector B3 of 95_test_vectors.md (rule R303). -/
theorem test_bvcRel_B3 :
  observe (fun t => t.pc) (step (place 0x0200 [0x50, 0x10] { start with p := 0x60 })) = some 0x0202 := by decide

/-- Vector B4 of 95_test_vectors.md (rule R304). -/
theorem test_bvsRel_B4 :
  observe (fun t => t.pc) (step (place 0x0300 [0x70, 0x80] { start with p := 0x60 })) = some 0x0282 := by decide

/-- Vector B5 of 95_test_vectors.md (rule R305). -/
theorem test_bccRel_B5 :
  observe (fun t => t.pc) (step (place 0xFFF0 [0x90, 0x20] start)) = some 0x0012 := by decide

/-- Vector B6 of 95_test_vectors.md (rule R306). -/
theorem test_bcsRel_B6 :
  observe (fun t => t.pc) (step (place 0x0200 [0xB0, 0x00] { start with p := 0x21 })) = some 0x0202 := by decide

/-- Vector B7 of 95_test_vectors.md (rule R307). -/
theorem test_bneRel_B7 :
  observe (fun t => t.pc) (step (place 0x0204 [0xD0, 0xFA] start)) = some 0x0200 := by decide

/-- Vector B8 of 95_test_vectors.md (rule R308). -/
theorem test_beqRel_B8 :
  observe (fun t => t.pc) (step (place 0x0200 [0xF0, 0x7F] start)) = some 0x0202 := by decide

/-- Vector B9 of 95_test_vectors.md (rule R308). -/
theorem test_beqRel_B9 :
  observe (fun t => t.pc) (step (place 0x0200 [0xF0, 0xFE] { start with p := 0x22 })) = some 0x0200 := by decide

/-- Vector J1 of 95_test_vectors.md (rule R310). -/
theorem test_jmpAbs_J1 :
  observe (fun t => t.pc) (step (place 0x0200 [0x4C, 0x00, 0xC0] start)) = some 0xC000 := by decide

/-- Vector J3 of 95_test_vectors.md (rule R312). -/
theorem test_jsrAbs_J3 :
  observe (fun t => (t.sp, t.pc, t.mem.read 0x01FD, t.mem.read 0x01FC))
      (step (place 0xC000 [0x20, 0x34, 0x12] start)) =
    some (0xFB, 0x1234, 0xC0, 0x02) := by decide

/-- Vector J4 of 95_test_vectors.md (rule R312). -/
theorem test_jsrAbs_J4 :
  observe (fun t => (t.sp, t.pc, t.mem.read 0x0100, t.mem.read 0x01FF))
      (step (place 0x0200 [0x20, 0x00, 0x30] { start with sp := 0x00 })) =
    some (0xFE, 0x3000, 0x02, 0x02) := by decide

/-- Vector J6 of 95_test_vectors.md (rule R313). -/
theorem test_rts_J6 :
  observe (fun t => (t.sp, t.pc))
      (step (place 0x0200 [0x60] (withMem [(0x01FE, 0xFF), (0x01FF, 0xFF)] start))) =
    some (0xFF, 0x0000) := by decide

/-- Vector J7 of 95_test_vectors.md (rule R313). -/
theorem test_rts_J7 :
  observe (fun t => (t.sp, t.pc))
      (step (place 0x0200 [0x60] (withMem [(0x0100, 0x10), (0x0101, 0x20)] { start with sp := 0xFF }))) =
    some (0x01, 0x2011) := by decide

/-- Vector K1 of 95_test_vectors.md (rule R330). -/
theorem test_pha_K1 :
  observe (fun t => (t.sp, t.mem.read 0x0100))
      (step (place 0x0200 [0x48] { start with a := 0x5A, sp := 0x00 })) =
    some (0xFF, 0x5A) := by decide

/-- Vector K2 of 95_test_vectors.md (rule R331). -/
theorem test_pla_K2 :
  observe (fun t => (t.a, t.sp, t.p))
      (step (place 0x0200 [0x68] (withMem [(0x0100, 0x80)] { start with sp := 0xFF }))) =
    some (0x80, 0x00, 0xA0) := by decide

/-- Vector K3 of 95_test_vectors.md (rule R332). -/
theorem test_php_K3 :
  observe (fun t => (t.sp, t.mem.read 0x01FD))
      (step (place 0x0200 [0x08] { start with p := 0xA1 })) =
    some (0xFC, 0xB1) := by decide

/-- Vector K5 of 95_test_vectors.md (rule R333). -/
theorem test_plp_K5 :
  observe (fun t => (t.sp, t.p))
      (step (place 0x0200 [0x28] (withMem [(0x01FD, 0xFF)] { start with sp := 0xFC }))) =
    some (0xFD, 0xFF) := by decide

/-- Vector K7 of 95_test_vectors.md (rule R334). -/
theorem test_clc_K7 :
  observe (fun t => t.p) (step (place 0x0200 [0x18] { start with p := 0xFF })) = some 0xFE := by decide

/-- Vector K8 of 95_test_vectors.md (rule R335). -/
theorem test_sec_K8 :
  observe (fun t => t.p) (step (place 0x0200 [0x38] start)) = some 0x21 := by decide

/-- Vector K9 of 95_test_vectors.md (rule R336). -/
theorem test_cli_K9 :
  observe (fun t => t.p) (step (place 0x0200 [0x58] { start with p := 0x24 })) = some 0x20 := by decide

/-- Vector K10 of 95_test_vectors.md (rule R337). -/
theorem test_sei_K10 :
  observe (fun t => t.p) (step (place 0x0200 [0x78] start)) = some 0x24 := by decide

/-- Vector K11 of 95_test_vectors.md (rule R338). -/
theorem test_cld_K11 :
  observe (fun t => t.p) (step (place 0x0200 [0xD8] { start with p := 0x28 })) = some 0x20 := by decide

/-- Vector K12 of 95_test_vectors.md (rule R339). -/
theorem test_sed_K12 :
  observe (fun t => t.p) (step (place 0x0200 [0xF8] start)) = some 0x28 := by decide

/-- Vector K13 of 95_test_vectors.md (rule R340). -/
theorem test_clv_K13 :
  observe (fun t => t.p) (step (place 0x0200 [0xB8] { start with p := 0x60 })) = some 0x20 := by decide

/-- Vector K14 of 95_test_vectors.md (rule R341). -/
theorem test_nop_K14 :
  observe (fun t => (t.pc, addresses t)) (step (place 0x0200 [0xEA] start)) = some (0x0201, [0x0200]) := by decide

/-- Vector K16 of 95_test_vectors.md (rule R360). -/
theorem test_brk_K16 :
  observe (fun t => (t.sp, t.mem.read 0x01FD, t.mem.read 0x01FC))
      (step (place 0x0300 [0x00] (withMem [(0xFFFE, 0x00), (0xFFFF, 0xE0)] { start with p := 0x2D }))) =
    some (0xFA, 0x03, 0x02) := by decide

/-- Vector K18 of 95_test_vectors.md (rule R361). -/
theorem test_rti_K18 :
  observe (fun t => (t.sp, t.p))
      (step (place 0x0200 [0x40] (withMem [(0x01FB, 0xC3), (0x01FC, 0x00), (0x01FD, 0x80)] { start with sp := 0xFA, p := 0x24 }))) =
    some (0xFD, 0xE3) := by decide

/-- Vector U1 of 95_test_vectors.md (rule R370). -/
theorem test_sloZp_U1 :
  observe (fun t => (t.a, t.p, t.mem.read 0x0010))
      (step (place 0x0200 [0x07, 0x10] (withMem [(0x0010, 0x81)] { start with a := 0x01 }))) =
    some (0x03, 0x21, 0x02) := by decide

/-- Vector U2 of 95_test_vectors.md (rule R370). -/
theorem test_sloIndy_U2 :
  observe (fun t => (t.a, t.p, t.mem.read 0x2100))
      (step (place 0x0200 [0x13, 0x40] (withMem [(0x0040, 0xFF), (0x0041, 0x20), (0x2100, 0x40)] { start with y := 0x01 }))) =
    some (0x80, 0xA0, 0x80) := by decide

/-- Vector U4 of 95_test_vectors.md (rule R371). -/
theorem test_rlaAbsx_U4 :
  observe (fun t => (t.a, t.p, t.mem.read 0x1300))
      (step (place 0x0200 [0x3F, 0xFF, 0x12] (withMem [(0x1300, 0x55)] { start with a := 0xFF, x := 0x01 }))) =
    some (0xAA, 0xA0, 0xAA) := by decide

/-- Vector U5 of 95_test_vectors.md (rule R372). -/
theorem test_sreZp_U5 :
  observe (fun t => (t.a, t.p, t.mem.read 0x0010))
      (step (place 0x0200 [0x47, 0x10] (withMem [(0x0010, 0x03)] { start with a := 0x01 }))) =
    some (0x00, 0x23, 0x01) := by decide

/-- Vector U6 of 95_test_vectors.md (rule R373). -/
theorem test_rraZp_U6 :
  observe (fun t => (t.a, t.p, t.mem.read 0x0010))
      (step (place 0x0200 [0x67, 0x10] (withMem [(0x0010, 0x02)] { start with a := 0x10, p := 0x21 }))) =
    some (0x91, 0xA0, 0x81) := by decide

/-- Vector U7 of 95_test_vectors.md (rule R373). -/
theorem test_rraZp_U7 :
  observe (fun t => (t.a, t.mem.read 0x0010))
      (step (place 0x0200 [0x67, 0x10] (withMem [(0x0010, 0x03)] { start with a := 0x09, p := 0x28 }))) =
    some (0x11, 0x01) := by decide

/-- Vector U8 of 95_test_vectors.md (rule R373). -/
theorem test_rraIndy_U8 :
  observe (fun t => (t.a, t.p, t.mem.read 0x2100))
      (step (place 0x0200 [0x73, 0x40] (withMem [(0x0040, 0xFF), (0x0041, 0x20), (0x2100, 0x02)] { start with a := 0x7F, y := 0x01 }))) =
    some (0x80, 0xE0, 0x01) := by decide

/-- Vector U10 of 95_test_vectors.md (rule R374). -/
theorem test_saxIndx_U10 :
  observe (fun t => (t.mem.read 0x0400, addresses t))
      (step (place 0x0200 [0x83, 0xFE] (withMem [(0x0000, 0x04), (0x00FF, 0x00)] { start with a := 0xAB, x := 0x01 }))) =
    some (0x01, [0x0200, 0x0201, 0x00FF, 0x0000, 0x0400]) := by decide

/-- Vector U12 of 95_test_vectors.md (rule R375). -/
theorem test_laxZpy_U12 :
  observe (fun t => t.p)
      (step (place 0x0200 [0xB7, 0xFF] (withMem [(0x0000, 0x00)] { start with y := 0x01 }))) =
    some 0x22 := by decide

/-- Vector U14 of 95_test_vectors.md (rule R376). -/
theorem test_dcpAbsy_U14 :
  observe (fun t => t.mem.read 0x3005)
      (step (place 0x0200 [0xDB, 0x00, 0x30] (withMem [(0x3005, 0x00)] { start with a := 0x10, y := 0x05 }))) =
    some 0xFF := by decide

/-- Vector U16 of 95_test_vectors.md (rule R377). -/
theorem test_isbZp_U16 :
  observe (fun t => (t.a, t.mem.read 0x0010))
      (step (place 0x0200 [0xE7, 0x10] (withMem [(0x0010, 0x08)] { start with a := 0x10, p := 0x29 }))) =
    some (0x01, 0x09) := by decide

/-- Vector U17 of 95_test_vectors.md (rule R377). -/
theorem test_isbZpx_U17 :
  observe (fun t => (t.a, t.p, t.mem.read 0x0010))
      (step (place 0x0200 [0xF7, 0xF0] (withMem [(0x0010, 0x00)] { start with a := 0x80, x := 0x20, p := 0x21 }))) =
    some (0x7F, 0x61, 0x01) := by decide

/-- Vector U18 of 95_test_vectors.md (rule R390). -/
theorem test_nopAbsx1C_U18 :
  observe (fun t => (t.pc, addresses t))
      (step (place 0x0200 [0x1C, 0xF0, 0x12] { start with x := 0x20 })) =
    some (0x0203, [0x0200, 0x0201, 0x0202, 0x1310]) := by decide

/-- Vector U20 of 95_test_vectors.md (rule R390). -/
theorem test_nopZp44_U20 :
  observe (fun t => (t.pc, addresses t))
      (step (place 0x0200 [0x44, 0x10] start)) =
    some (0x0202, [0x0200, 0x0201, 0x0010]) := by decide

/-- Vector U21 of 95_test_vectors.md (rule R390). -/
theorem test_nopImp1A_U21 :
  observe (fun t => t.pc) (step (place 0x0200 [0x1A] start)) = some 0x0201 := by decide

/-- Vector U22 of 95_test_vectors.md (rule R391). -/
theorem test_sbcImmEB_U22 :
  observe (fun t => (t.a, t.p)) (step (place 0x0200 [0xEB, 0x01] { start with p := 0x21 })) = some (0xFF, 0xA0) := by decide
/-! ## Decoding: every constructor from a word written from the encoding line of its rule -/

/-- Row `0x` of the opcode map, with operand bytes $34 and $12. -/
theorem test_decode_row0 :
  [
   [0x00], [0x01, 0x34], [0x02], [0x03, 0x34], [0x04, 0x34], [0x05, 0x34], [0x06, 0x34], [0x07, 0x34], [0x08], [0x09, 0x34],
   [0x0A], [0x0B, 0x34], [0x0C, 0x34, 0x12], [0x0D, 0x34, 0x12], [0x0E, 0x34, 0x12], [0x0F, 0x34, 0x12]
  ].map decode = [
   .ok .brk [], .ok (.oraIndx 0x34) [], .ok .jam02 [], .ok (.sloIndx 0x34) [], .ok (.nopZp04 0x34) [], .ok (.oraZp 0x34) [],
   .ok (.aslZp 0x34) [], .ok (.sloZp 0x34) [], .ok .php [], .ok (.oraImm 0x34) [], .ok .aslAcc [], .ok (.ancImm0B 0x34) [],
   .ok (.nopAbs0C 0x1234) [], .ok (.oraAbs 0x1234) [], .ok (.aslAbs 0x1234) [], .ok (.sloAbs 0x1234) []
  ] := by decide

/-- Row `1x` of the opcode map, with operand bytes $34 and $12. -/
theorem test_decode_row1 :
  [
   [0x10, 0x34], [0x11, 0x34], [0x12], [0x13, 0x34], [0x14, 0x34], [0x15, 0x34], [0x16, 0x34], [0x17, 0x34], [0x18],
   [0x19, 0x34, 0x12], [0x1A], [0x1B, 0x34, 0x12], [0x1C, 0x34, 0x12], [0x1D, 0x34, 0x12], [0x1E, 0x34, 0x12],
   [0x1F, 0x34, 0x12]
  ].map decode = [
   .ok (.bplRel 0x34) [], .ok (.oraIndy 0x34) [], .ok .jam12 [], .ok (.sloIndy 0x34) [], .ok (.nopZpx14 0x34) [],
   .ok (.oraZpx 0x34) [], .ok (.aslZpx 0x34) [], .ok (.sloZpx 0x34) [], .ok .clc [], .ok (.oraAbsy 0x1234) [],
   .ok .nopImp1A [], .ok (.sloAbsy 0x1234) [], .ok (.nopAbsx1C 0x1234) [], .ok (.oraAbsx 0x1234) [],
   .ok (.aslAbsx 0x1234) [], .ok (.sloAbsx 0x1234) []
  ] := by decide

/-- Row `2x` of the opcode map, with operand bytes $34 and $12. -/
theorem test_decode_row2 :
  [
   [0x20, 0x34, 0x12], [0x21, 0x34], [0x22], [0x23, 0x34], [0x24, 0x34], [0x25, 0x34], [0x26, 0x34], [0x27, 0x34], [0x28],
   [0x29, 0x34], [0x2A], [0x2B, 0x34], [0x2C, 0x34, 0x12], [0x2D, 0x34, 0x12], [0x2E, 0x34, 0x12], [0x2F, 0x34, 0x12]
  ].map decode = [
   .ok (.jsrAbs 0x1234) [], .ok (.andIndx 0x34) [], .ok .jam22 [], .ok (.rlaIndx 0x34) [], .ok (.bitZp 0x34) [],
   .ok (.andZp 0x34) [], .ok (.rolZp 0x34) [], .ok (.rlaZp 0x34) [], .ok .plp [], .ok (.andImm 0x34) [], .ok .rolAcc [],
   .ok (.ancImm2B 0x34) [], .ok (.bitAbs 0x1234) [], .ok (.andAbs 0x1234) [], .ok (.rolAbs 0x1234) [],
   .ok (.rlaAbs 0x1234) []
  ] := by decide

/-- Row `3x` of the opcode map, with operand bytes $34 and $12. -/
theorem test_decode_row3 :
  [
   [0x30, 0x34], [0x31, 0x34], [0x32], [0x33, 0x34], [0x34, 0x34], [0x35, 0x34], [0x36, 0x34], [0x37, 0x34], [0x38],
   [0x39, 0x34, 0x12], [0x3A], [0x3B, 0x34, 0x12], [0x3C, 0x34, 0x12], [0x3D, 0x34, 0x12], [0x3E, 0x34, 0x12],
   [0x3F, 0x34, 0x12]
  ].map decode = [
   .ok (.bmiRel 0x34) [], .ok (.andIndy 0x34) [], .ok .jam32 [], .ok (.rlaIndy 0x34) [], .ok (.nopZpx34 0x34) [],
   .ok (.andZpx 0x34) [], .ok (.rolZpx 0x34) [], .ok (.rlaZpx 0x34) [], .ok .sec [], .ok (.andAbsy 0x1234) [],
   .ok .nopImp3A [], .ok (.rlaAbsy 0x1234) [], .ok (.nopAbsx3C 0x1234) [], .ok (.andAbsx 0x1234) [],
   .ok (.rolAbsx 0x1234) [], .ok (.rlaAbsx 0x1234) []
  ] := by decide

/-- Row `4x` of the opcode map, with operand bytes $34 and $12. -/
theorem test_decode_row4 :
  [
   [0x40], [0x41, 0x34], [0x42], [0x43, 0x34], [0x44, 0x34], [0x45, 0x34], [0x46, 0x34], [0x47, 0x34], [0x48], [0x49, 0x34],
   [0x4A], [0x4B, 0x34], [0x4C, 0x34, 0x12], [0x4D, 0x34, 0x12], [0x4E, 0x34, 0x12], [0x4F, 0x34, 0x12]
  ].map decode = [
   .ok .rti [], .ok (.eorIndx 0x34) [], .ok .jam42 [], .ok (.sreIndx 0x34) [], .ok (.nopZp44 0x34) [], .ok (.eorZp 0x34) [],
   .ok (.lsrZp 0x34) [], .ok (.sreZp 0x34) [], .ok .pha [], .ok (.eorImm 0x34) [], .ok .lsrAcc [], .ok (.alrImm 0x34) [],
   .ok (.jmpAbs 0x1234) [], .ok (.eorAbs 0x1234) [], .ok (.lsrAbs 0x1234) [], .ok (.sreAbs 0x1234) []
  ] := by decide

/-- Row `5x` of the opcode map, with operand bytes $34 and $12. -/
theorem test_decode_row5 :
  [
   [0x50, 0x34], [0x51, 0x34], [0x52], [0x53, 0x34], [0x54, 0x34], [0x55, 0x34], [0x56, 0x34], [0x57, 0x34], [0x58],
   [0x59, 0x34, 0x12], [0x5A], [0x5B, 0x34, 0x12], [0x5C, 0x34, 0x12], [0x5D, 0x34, 0x12], [0x5E, 0x34, 0x12],
   [0x5F, 0x34, 0x12]
  ].map decode = [
   .ok (.bvcRel 0x34) [], .ok (.eorIndy 0x34) [], .ok .jam52 [], .ok (.sreIndy 0x34) [], .ok (.nopZpx54 0x34) [],
   .ok (.eorZpx 0x34) [], .ok (.lsrZpx 0x34) [], .ok (.sreZpx 0x34) [], .ok .cli [], .ok (.eorAbsy 0x1234) [],
   .ok .nopImp5A [], .ok (.sreAbsy 0x1234) [], .ok (.nopAbsx5C 0x1234) [], .ok (.eorAbsx 0x1234) [],
   .ok (.lsrAbsx 0x1234) [], .ok (.sreAbsx 0x1234) []
  ] := by decide

/-- Row `6x` of the opcode map, with operand bytes $34 and $12. -/
theorem test_decode_row6 :
  [
   [0x60], [0x61, 0x34], [0x62], [0x63, 0x34], [0x64, 0x34], [0x65, 0x34], [0x66, 0x34], [0x67, 0x34], [0x68], [0x69, 0x34],
   [0x6A], [0x6B, 0x34], [0x6C, 0x34, 0x12], [0x6D, 0x34, 0x12], [0x6E, 0x34, 0x12], [0x6F, 0x34, 0x12]
  ].map decode = [
   .ok .rts [], .ok (.adcIndx 0x34) [], .ok .jam62 [], .ok (.rraIndx 0x34) [], .ok (.nopZp64 0x34) [], .ok (.adcZp 0x34) [],
   .ok (.rorZp 0x34) [], .ok (.rraZp 0x34) [], .ok .pla [], .ok (.adcImm 0x34) [], .ok .rorAcc [], .ok (.arrImm 0x34) [],
   .ok (.jmpInd 0x1234) [], .ok (.adcAbs 0x1234) [], .ok (.rorAbs 0x1234) [], .ok (.rraAbs 0x1234) []
  ] := by decide

/-- Row `7x` of the opcode map, with operand bytes $34 and $12. -/
theorem test_decode_row7 :
  [
   [0x70, 0x34], [0x71, 0x34], [0x72], [0x73, 0x34], [0x74, 0x34], [0x75, 0x34], [0x76, 0x34], [0x77, 0x34], [0x78],
   [0x79, 0x34, 0x12], [0x7A], [0x7B, 0x34, 0x12], [0x7C, 0x34, 0x12], [0x7D, 0x34, 0x12], [0x7E, 0x34, 0x12],
   [0x7F, 0x34, 0x12]
  ].map decode = [
   .ok (.bvsRel 0x34) [], .ok (.adcIndy 0x34) [], .ok .jam72 [], .ok (.rraIndy 0x34) [], .ok (.nopZpx74 0x34) [],
   .ok (.adcZpx 0x34) [], .ok (.rorZpx 0x34) [], .ok (.rraZpx 0x34) [], .ok .sei [], .ok (.adcAbsy 0x1234) [],
   .ok .nopImp7A [], .ok (.rraAbsy 0x1234) [], .ok (.nopAbsx7C 0x1234) [], .ok (.adcAbsx 0x1234) [],
   .ok (.rorAbsx 0x1234) [], .ok (.rraAbsx 0x1234) []
  ] := by decide

/-- Row `8x` of the opcode map, with operand bytes $34 and $12. -/
theorem test_decode_row8 :
  [
   [0x80, 0x34], [0x81, 0x34], [0x82, 0x34], [0x83, 0x34], [0x84, 0x34], [0x85, 0x34], [0x86, 0x34], [0x87, 0x34], [0x88],
   [0x89, 0x34], [0x8A], [0x8B, 0x34], [0x8C, 0x34, 0x12], [0x8D, 0x34, 0x12], [0x8E, 0x34, 0x12], [0x8F, 0x34, 0x12]
  ].map decode = [
   .ok (.nopImm80 0x34) [], .ok (.staIndx 0x34) [], .ok (.nopImm82 0x34) [], .ok (.saxIndx 0x34) [], .ok (.styZp 0x34) [],
   .ok (.staZp 0x34) [], .ok (.stxZp 0x34) [], .ok (.saxZp 0x34) [], .ok .dey [], .ok (.nopImm89 0x34) [], .ok .txa [],
   .ok (.xaaImm 0x34) [], .ok (.styAbs 0x1234) [], .ok (.staAbs 0x1234) [], .ok (.stxAbs 0x1234) [], .ok (.saxAbs 0x1234) []
  ] := by decide

/-- Row `9x` of the opcode map, with operand bytes $34 and $12. -/
theorem test_decode_row9 :
  [
   [0x90, 0x34], [0x91, 0x34], [0x92], [0x93, 0x34], [0x94, 0x34], [0x95, 0x34], [0x96, 0x34], [0x97, 0x34], [0x98],
   [0x99, 0x34, 0x12], [0x9A], [0x9B, 0x34, 0x12], [0x9C, 0x34, 0x12], [0x9D, 0x34, 0x12], [0x9E, 0x34, 0x12],
   [0x9F, 0x34, 0x12]
  ].map decode = [
   .ok (.bccRel 0x34) [], .ok (.staIndy 0x34) [], .ok .jam92 [], .ok (.shaIndy 0x34) [], .ok (.styZpx 0x34) [],
   .ok (.staZpx 0x34) [], .ok (.stxZpy 0x34) [], .ok (.saxZpy 0x34) [], .ok .tya [], .ok (.staAbsy 0x1234) [], .ok .txs [],
   .ok (.tasAbsy 0x1234) [], .ok (.shyAbsx 0x1234) [], .ok (.staAbsx 0x1234) [], .ok (.shxAbsy 0x1234) [],
   .ok (.shaAbsy 0x1234) []
  ] := by decide

/-- Row `Ax` of the opcode map, with operand bytes $34 and $12. -/
theorem test_decode_rowA :
  [
   [0xA0, 0x34], [0xA1, 0x34], [0xA2, 0x34], [0xA3, 0x34], [0xA4, 0x34], [0xA5, 0x34], [0xA6, 0x34], [0xA7, 0x34], [0xA8],
   [0xA9, 0x34], [0xAA], [0xAB, 0x34], [0xAC, 0x34, 0x12], [0xAD, 0x34, 0x12], [0xAE, 0x34, 0x12], [0xAF, 0x34, 0x12]
  ].map decode = [
   .ok (.ldyImm 0x34) [], .ok (.ldaIndx 0x34) [], .ok (.ldxImm 0x34) [], .ok (.laxIndx 0x34) [], .ok (.ldyZp 0x34) [],
   .ok (.ldaZp 0x34) [], .ok (.ldxZp 0x34) [], .ok (.laxZp 0x34) [], .ok .tay [], .ok (.ldaImm 0x34) [], .ok .tax [],
   .ok (.lxaImm 0x34) [], .ok (.ldyAbs 0x1234) [], .ok (.ldaAbs 0x1234) [], .ok (.ldxAbs 0x1234) [], .ok (.laxAbs 0x1234) []
  ] := by decide

/-- Row `Bx` of the opcode map, with operand bytes $34 and $12. -/
theorem test_decode_rowB :
  [
   [0xB0, 0x34], [0xB1, 0x34], [0xB2], [0xB3, 0x34], [0xB4, 0x34], [0xB5, 0x34], [0xB6, 0x34], [0xB7, 0x34], [0xB8],
   [0xB9, 0x34, 0x12], [0xBA], [0xBB, 0x34, 0x12], [0xBC, 0x34, 0x12], [0xBD, 0x34, 0x12], [0xBE, 0x34, 0x12],
   [0xBF, 0x34, 0x12]
  ].map decode = [
   .ok (.bcsRel 0x34) [], .ok (.ldaIndy 0x34) [], .ok .jamB2 [], .ok (.laxIndy 0x34) [], .ok (.ldyZpx 0x34) [],
   .ok (.ldaZpx 0x34) [], .ok (.ldxZpy 0x34) [], .ok (.laxZpy 0x34) [], .ok .clv [], .ok (.ldaAbsy 0x1234) [], .ok .tsx [],
   .ok (.lasAbsy 0x1234) [], .ok (.ldyAbsx 0x1234) [], .ok (.ldaAbsx 0x1234) [], .ok (.ldxAbsy 0x1234) [],
   .ok (.laxAbsy 0x1234) []
  ] := by decide

/-- Row `Cx` of the opcode map, with operand bytes $34 and $12. -/
theorem test_decode_rowC :
  [
   [0xC0, 0x34], [0xC1, 0x34], [0xC2, 0x34], [0xC3, 0x34], [0xC4, 0x34], [0xC5, 0x34], [0xC6, 0x34], [0xC7, 0x34], [0xC8],
   [0xC9, 0x34], [0xCA], [0xCB, 0x34], [0xCC, 0x34, 0x12], [0xCD, 0x34, 0x12], [0xCE, 0x34, 0x12], [0xCF, 0x34, 0x12]
  ].map decode = [
   .ok (.cpyImm 0x34) [], .ok (.cmpIndx 0x34) [], .ok (.nopImmC2 0x34) [], .ok (.dcpIndx 0x34) [], .ok (.cpyZp 0x34) [],
   .ok (.cmpZp 0x34) [], .ok (.decZp 0x34) [], .ok (.dcpZp 0x34) [], .ok .iny [], .ok (.cmpImm 0x34) [], .ok .dex [],
   .ok (.axsImm 0x34) [], .ok (.cpyAbs 0x1234) [], .ok (.cmpAbs 0x1234) [], .ok (.decAbs 0x1234) [], .ok (.dcpAbs 0x1234) []
  ] := by decide

/-- Row `Dx` of the opcode map, with operand bytes $34 and $12. -/
theorem test_decode_rowD :
  [
   [0xD0, 0x34], [0xD1, 0x34], [0xD2], [0xD3, 0x34], [0xD4, 0x34], [0xD5, 0x34], [0xD6, 0x34], [0xD7, 0x34], [0xD8],
   [0xD9, 0x34, 0x12], [0xDA], [0xDB, 0x34, 0x12], [0xDC, 0x34, 0x12], [0xDD, 0x34, 0x12], [0xDE, 0x34, 0x12],
   [0xDF, 0x34, 0x12]
  ].map decode = [
   .ok (.bneRel 0x34) [], .ok (.cmpIndy 0x34) [], .ok .jamD2 [], .ok (.dcpIndy 0x34) [], .ok (.nopZpxD4 0x34) [],
   .ok (.cmpZpx 0x34) [], .ok (.decZpx 0x34) [], .ok (.dcpZpx 0x34) [], .ok .cld [], .ok (.cmpAbsy 0x1234) [],
   .ok .nopImpDA [], .ok (.dcpAbsy 0x1234) [], .ok (.nopAbsxDC 0x1234) [], .ok (.cmpAbsx 0x1234) [],
   .ok (.decAbsx 0x1234) [], .ok (.dcpAbsx 0x1234) []
  ] := by decide

/-- Row `Ex` of the opcode map, with operand bytes $34 and $12. -/
theorem test_decode_rowE :
  [
   [0xE0, 0x34], [0xE1, 0x34], [0xE2, 0x34], [0xE3, 0x34], [0xE4, 0x34], [0xE5, 0x34], [0xE6, 0x34], [0xE7, 0x34], [0xE8],
   [0xE9, 0x34], [0xEA], [0xEB, 0x34], [0xEC, 0x34, 0x12], [0xED, 0x34, 0x12], [0xEE, 0x34, 0x12], [0xEF, 0x34, 0x12]
  ].map decode = [
   .ok (.cpxImm 0x34) [], .ok (.sbcIndx 0x34) [], .ok (.nopImmE2 0x34) [], .ok (.isbIndx 0x34) [], .ok (.cpxZp 0x34) [],
   .ok (.sbcZp 0x34) [], .ok (.incZp 0x34) [], .ok (.isbZp 0x34) [], .ok .inx [], .ok (.sbcImm 0x34) [], .ok .nop [],
   .ok (.sbcImmEB 0x34) [], .ok (.cpxAbs 0x1234) [], .ok (.sbcAbs 0x1234) [], .ok (.incAbs 0x1234) [],
   .ok (.isbAbs 0x1234) []
  ] := by decide

/-- Row `Fx` of the opcode map, with operand bytes $34 and $12. -/
theorem test_decode_rowF :
  [
   [0xF0, 0x34], [0xF1, 0x34], [0xF2], [0xF3, 0x34], [0xF4, 0x34], [0xF5, 0x34], [0xF6, 0x34], [0xF7, 0x34], [0xF8],
   [0xF9, 0x34, 0x12], [0xFA], [0xFB, 0x34, 0x12], [0xFC, 0x34, 0x12], [0xFD, 0x34, 0x12], [0xFE, 0x34, 0x12],
   [0xFF, 0x34, 0x12]
  ].map decode = [
   .ok (.beqRel 0x34) [], .ok (.sbcIndy 0x34) [], .ok .jamF2 [], .ok (.isbIndy 0x34) [], .ok (.nopZpxF4 0x34) [],
   .ok (.sbcZpx 0x34) [], .ok (.incZpx 0x34) [], .ok (.isbZpx 0x34) [], .ok .sed [], .ok (.sbcAbsy 0x1234) [],
   .ok .nopImpFA [], .ok (.isbAbsy 0x1234) [], .ok (.nopAbsxFC 0x1234) [], .ok (.sbcAbsx 0x1234) [],
   .ok (.incAbsx 0x1234) [], .ok (.isbAbsx 0x1234) []
  ] := by decide
/-- Bytes that end too early are rejected by name; the rest after an instruction is left. -/
theorem test_decode_rejects :
  decode [] = .reject .empty ∧ decode [0xA9] = .reject (.truncated 0xA9 1) ∧
  decode [0x20] = .reject (.truncated 0x20 2) ∧ decode [0x20, 0x34] = .reject (.truncated 0x20 1) ∧
  decode [0xE8, 0x60] = .ok .inx [0x60] := by decide

/-- The encoder on the three lines of example E8 and on a backward branch (95_test_vectors.md E8, vector B7). -/
theorem test_encode_examples :
  encode (.ldaImm 0x05) = [0xA9, 0x05] ∧ encode (.staAbs 0xD020) = [0x8D, 0x20, 0xD0] ∧ encode .rts = [0x60] ∧
  encode (.bneRel 0xFA) = [0xD0, 0xFA] := by decide

/-- The host's table words: $EA (8 bits), $A9 with operand $34 (16 bits) and $20 with $1234 (24 bits); a short word reads as
operand bytes of zero. -/
theorem test_decodeTableWord :
  decodeTableWord 8 0xEA = some .nop ∧ decodeTableWord 16 0x34A9 = some (.ldaImm 0x34) ∧
  decodeTableWord 24 0x123420 = some (.jsrAbs 0x1234) ∧ decodeTableWord 8 0x20 = some (.jsrAbs 0) := by decide

/-- The step runs a table word placed by the host as the first instruction after reset. -/
theorem test_withFetchWord :
  observe (fun t => (t.a, t.pc)) (step (State.reset.withFetchWord 16 0x80A9)) = some (0x80, 0x0002) := by decide

/-! ## WellFormed: terms that each check refuses -/

/-- A T4 instruction is never admitted (30_encoding.md R107). -/
theorem test_admitted_refuses_t4 :
  Instr.jam02.admitted Params.initial = false ∧ (Instr.ancImm2B 0).admitted Params.initial = false ∧
  (Instr.lasAbsy 0).admitted Params.initial = false := by decide

/-- A T3 instruction is admitted exactly if `ADMIT_T3` is true (40_addressing.md R140). -/
theorem test_admitted_refuses_t3 :
  (Instr.sbcImmEB 1).admitted { Params.initial with admitT3 := false } = false ∧
  Instr.nopImp1A.admitted { Params.initial with admitT3 := false } = false ∧
  Instr.nopImp1A.admitted Params.initial = true ∧ Instr.nop.admitted { Params.initial with admitT3 := false } = true := by
  decide

/-- A trap table out of order, one with an address twice, and one with 33 addresses are refused; one with 32 is not
(60_exceptions.md R440, R442). -/
theorem test_params_wf_refuses :
  Params.wf { Params.initial with traps := [0x0200, 0x0100] } = false ∧
  Params.wf { Params.initial with traps := [0x0200, 0x0200] } = false ∧
  Params.wf { Params.initial with traps := (List.range 33).map (BitVec.ofNat 16) } = false ∧
  Params.wf { Params.initial with traps := (List.range 32).map (BitVec.ofNat 16) } = true := by decide

/-- A list of cells out of order, one with an address twice, one with the unlisted byte and one past the address space are no
memory. -/
theorem test_memory_wf_refuses :
  Memory.wf [(2, 1), (1, 1)] = false ∧ Memory.wf [(1, 1), (1, 2)] = false ∧ Memory.wf [(1, 0)] = false ∧
  Memory.wf [(65536, 1)] = false ∧ Memory.wf [(0, 1), (65535, 1)] = true := by decide

/-- A write of the unlisted byte removes the cell. -/
theorem test_memory_write_canonical :
  Memory.write (Memory.write [] 0x10 5) 0x10 0 = [] ∧
  Memory.write (Memory.write [] 0x20 5) 0x10 6 = [(0x10, 6), (0x20, 5)] := by decide

/-! ## Refused bytes, interrupts, reset and the trap hook -/

/-- Vectors U23, U24 and U25 (R400 to R402, R390). -/
theorem test_refusals :
  refusal (step (place 0x0200 [0x02] start)) = some (.unmodelledOpcode 0x02 0x0200) ∧
  refusal (step (place 0x0200 [0x0B, 0xFF] start)) = some (.unmodelledOpcode 0x0B 0x0200) ∧
  refusal (step (place 0x0200 [0x80, 0x00] { start with params := { Params.initial with admitT3 := false } })) =
    some (.unmodelledOpcode 0x80 0x0200) := by decide

/-- The state of the interrupt vectors: PC = $0234, the IRQ handler at $E000 and the NMI handler at $9000. -/
def interruptible (p : Byte) (calls : List HostCall) : State :=
  withMem [(0xFFFB, 0x90), (0xFFFF, 0xE0)] { start with pc := 0x0234, p := p, inputs := calls }

/-- Vector I1: a masked irq() is lost (R427). -/
theorem test_irq_masked_I1 :
  observe (fun t => (t.pc, t.sp, t.p, t.inputs)) (step (interruptible 0x24 [.irq])) = some (0x0234, 0xFD, 0x24, []) := by
  decide

/-- Vector I2 (R423, R426). -/
theorem test_irq_taken_I2 :
  observe (fun t => (t.pc, t.p, addresses t)) (step (interruptible 0xA1 [.irq])) =
    some (0xE000, 0xA5, [0x01FD, 0x01FC, 0x01FB, 0xFFFE, 0xFFFF]) := by decide

/-- Vector I3: the pushed byte has B = 0, the live B stays (R425). -/
theorem test_irq_pushed_byte_I3 :
  observe (fun t => (t.p, t.mem.read 0x01FB)) (step (interruptible 0x30 [.irq])) = some (0x34, 0x20) := by decide

/-- Vector I4: an NMI while I = 1, D unchanged (R424). -/
theorem test_nmi_I4 :
  observe (fun t => (t.pc, t.p, t.mem.read 0x01FB)) (step (interruptible 0x2C [.nmi])) = some (0x9000, 0x2C, 0x2C) := by
  decide

/-- The reset vectors: PC from $FFFC, SP and debt, bit 5 of P (70_reset_and_hazards.md R470). -/
theorem test_reset_call :
  observe (fun t => (t.pc, t.sp, t.debt, addresses t))
      (step (withMem [(0xFFFC, 0x34), (0xFFFD, 0x12)] { start with sp := 3, inputs := [.reset] })) =
    some (0x1234, 0xFD, 0, [0xFFFC, 0xFFFD]) := by decide

/-- A state with trap addresses and one scripted callback. -/
def trapped (traps : List Word) (order : TrapJsrOrder) (effects : List TrapEffect) (s : State) : State :=
  { s with params := { Params.initial with traps := traps, trapJsrOrder := order }, callbacks := effects }

/-- A callback that sets A to $77, pokes $2000 and sets PC. -/
def callback (pc : Word) (outcome : TrapOutcome) : TrapEffect :=
  { calls := [.write (.a 0x77), .call (.poke 0x2000 0x99), .write (.pc pc)], outcome := outcome }

/-- A state inside a callback at $C000. -/
def inCallback (calls : List CallbackCall) (push : Option Word) (outcome : TrapOutcome) (s : State) : State :=
  { s with openCallbacks := [{ target := 0xC000, push := push, calls := calls, outcome := outcome }] }

/-- Vectors T1 and T2, first step: the JMP opens the hook before control transfers (R440). -/
theorem test_trap_opens_T1 :
  observe (fun t => (t.pc, t.openCallbacks, hookCalls t.history))
      (step (trapped [0xC000] .pushThenHook [callback 0x0300 .redirect] (place 0x0200 [0x4C, 0x00, 0xC0] start))) =
    some (0x0203, [{ target := 0xC000, push := none, calls := (callback 0x0300 .redirect).calls, outcome := .redirect }],
      [0xC000]) := by decide

/-- Vector T1, last step: Redirect leaves PC where the callback put it, and the schedule waits for it (R440). -/
theorem test_trap_redirect_T1 :
  observe (fun t => (t.pc, t.a, t.openCallbacks, t.inputs))
      (step (inCallback [] none .redirect { start with pc := 0x0300, a := 0x77, inputs := [.nmi] })) =
    some (0x0300, 0x77, [], [.nmi]) := by decide

/-- Vector T2, last step: FallThrough transfers to the target (R440). -/
theorem test_trap_fallThrough_T2 :
  observe (fun t => (t.pc, t.a)) (step (inCallback [] none .fallThrough { start with pc := 0x0300, a := 0x77 })) =
    some (0xC000, 0x77) := by decide

/-- Calls inside a callback are ordinary steps: a nested instruction, a nested refusal, a new trap address, an NMI (R432). -/
theorem test_calls_in_a_callback :
  observe (fun t => (t.a, t.pc, t.openCallbacks.map OpenCallback.calls))
      (step (inCallback [.call .fastclock, .call .irq] none .redirect (place 0x0200 [0xA9, 0x05] start))) =
    some (0x05, 0x0202, [[.call .irq]]) ∧
  refusal (step (inCallback [.call .fastclock] none .redirect (place 0x0200 [0x02] start))) =
    some (.unmodelledOpcode 0x02 0x0200) ∧
  observe (fun t => t.params.traps)
      (step (inCallback [.call (.setpatch 0x1000)] none .redirect (trapped [0xC000] .pushThenHook [] start))) =
    some [0x1000, 0xC000] ∧
  observe (fun t => t.pc) (step (inCallback [.call .nmi] none .redirect (interruptible 0x24 []))) = some 0x9000 := by decide

/-- A hook that a callback's instruction fires opens in front of it (R432, R440). -/
theorem test_nested_hook :
  observe (fun t => t.openCallbacks.map OpenCallback.target)
      (step (inCallback [.call .fastclock] none .redirect
        (trapped [0x0300, 0xC000] .pushThenHook [callback 0 .redirect] (place 0x0200 [0x4C, 0x00, 0x03] start)))) =
    some [0x0300, 0xC000] := by decide

/-- The host's write of P leaves bit 5 = 1 (R440). -/
theorem test_host_writes_P :
  observe (fun t => (t.p, t.sp)) (step (inCallback [.write (.p 0xC3)] none .redirect start)) = some (0xE3, 0xFD) := by decide

/-- Example E7 and vector T4: the exact match fires the hook, another target does not (R440). -/
theorem test_trap_exact_match_T4 :
  observe (fun t => (t.pc, t.sp, hookCalls t.history))
      (step (trapped [0x0100, 0x0200, 0x0300] .pushThenHook [] (place 0x0200 [0x20, 0x50, 0x02] start))) =
    some (0x0250, 0xFB, []) := by decide

/-- Vector T5: a branch is never looked up (R440). -/
theorem test_trap_not_on_branches_T5 :
  observe (fun t => (t.pc, hookCalls t.history))
      (step (trapped [0x0202] .pushThenHook [] (place 0x0200 [0xD0, 0x00] start))) = some (0x0202, []) := by decide

/-- Vector T6: the lookup uses the target read through the pointer (R440). -/
theorem test_trap_indirect_T6 :
  observe (fun t => (t.openCallbacks.map OpenCallback.target, hookCalls t.history))
      (step (trapped [0xC000] .pushThenHook [callback 0x0300 .fallThrough]
        (place 0x0200 [0x6C, 0x00, 0x03] (withMem [(0x0301, 0xC0)] start)))) =
    some ([0xC000], [0xC000]) := by decide

/-- The two orders: the return address is on the stack when the hook opens under PushThenHook only; under HookThenPush the
push is left to the callback's return (R441, R312). -/
theorem test_trap_jsr_orders :
  observe (fun t => (t.sp, t.mem.read 0x01FD, t.openCallbacks.map OpenCallback.push))
      (step (trapped [0xC000] .pushThenHook [callback 0x0300 .redirect] (place 0x0400 [0x20, 0x00, 0xC0] start))) =
    some (0xFB, 0x04, [none]) ∧
  observe (fun t => (t.sp, t.mem.read 0x01FD, t.openCallbacks.map OpenCallback.push))
      (step (trapped [0xC000] .hookThenPush [callback 0x0300 .redirect] (place 0x0400 [0x20, 0x00, 0xC0] start))) =
    some (0xFD, 0x00, [some 0x0402]) := by decide

/-- HookThenPush on FallThrough pushes with the stack pointer the callback left; Redirect pushes nothing (R312). -/
theorem test_trap_jsr_returns :
  observe (fun t => (t.pc, t.sp, t.mem.read 0x0180, t.mem.read 0x017F))
      (step (inCallback [] (some 0x0402) .fallThrough { start with sp := 0x80 })) =
    some (0xC000, 0x7E, 0x04, 0x02) ∧
  observe (fun t => (t.pc, t.sp))
      (step (inCallback [] (some 0x0402) .redirect { start with pc := 0x0300, sp := 0x80 })) =
    some (0x0300, 0x80) := by decide

/-- `setpatch` keeps the table sorted, and a 33rd entry is ignored (R442). -/
theorem test_setpatch :
  addTrap 0x0200 [0x0100, 0x0300] = [0x0100, 0x0200, 0x0300] ∧ addTrap 0x0300 [0x0100, 0x0300] = [0x0100, 0x0300] ∧
  addTrap 0x9999 ((List.range 32).map (BitVec.ofNat 16)) = (List.range 32).map (BitVec.ofNat 16) := by decide

/-! ## The memory environment -/

/-- A state whose environment answers $D000 to $DFFF, with its next answers. -/
def device (answers : List Byte) (s : State) : State :=
  { s with params := { Params.initial with memEnv := [{ lo := 0xD000, hi := 0xDFFF }] }, answers := answers }

/-- A register that clears when it is read: the two reads of INC and then LDA take two answers, and the write of INC reaches
the environment, not the byte of plain RAM (R71). -/
theorem test_env_read_modify_write :
  observe (fun t => (t.answers, t.mem.read 0xD019, t.history.head?))
      (step (device [0x81, 0x00] (place 0x0200 [0xEE, 0x19, 0xD0] start))) =
    some ([0x00], 0x00, some (.write 0xD019 0x82)) ∧
  observe (fun t => (t.a, t.answers)) (step (device [0x00] (place 0x0203 [0xAD, 0x19, 0xD0] start))) = some (0x00, []) := by
  decide

/-- The edges of a region: $CFFF and $E000 are plain RAM (R71). -/
theorem test_env_edges :
  observe (fun t => (t.a, t.answers)) (step (device [0x55] (place 0x0200 [0xAD, 0xFF, 0xCF] (withMem [(0xCFFF, 7)] start)))) =
    some (0x07, [0x55]) ∧
  observe (fun t => (t.a, t.answers)) (step (device [0x55] (place 0x0200 [0xAD, 0xFF, 0xDF] (withMem [(0xDFFF, 7)] start)))) =
    some (0x55, []) ∧
  observe (fun t => (t.a, t.answers)) (step (device [0x55] (place 0x0200 [0xAD, 0x00, 0xE0] (withMem [(0xE000, 7)] start)))) =
    some (0x07, [0x55]) := by decide

/-- The host's own accesses go through the environment too (R71, R85). -/
theorem test_env_host_accesses :
  observe (fun t => (t.answers, t.history)) (step (device [0x12] { start with inputs := [.peek 0xD012] })) =
    some ([], [.hostRead 0xD012 0x12]) ∧
  observe (fun t => (t.mem, t.history)) (step (device [] { start with inputs := [.poke 0xD020 0x05] })) =
    some ([], [.hostWrite 0xD020 0x05]) := by decide

/-- A placed instruction is fetched from plain RAM whatever the environment answered there before. -/
theorem test_withFetchWord_env :
  observe (fun t => (t.a, t.pc)) (step ((device [0x02] { State.reset with pc := 0xD000 }).withFetchWord 16 0x80A9)) =
    some (0x80, 0xD002) := by decide

/-! ## Witnesses: a state and operands that meet the hypotheses of each statement, clause by clause -/

/-- An instruction of every opcode byte: no list of forms is empty of instructions. -/
theorem witness_every_form (op : Byte) : (instrOf op 0x34 0x12).opcode = op := opcode_instrOf op 0x34 0x12

/-- A call that the schedule holds is due while no callback is open. -/
theorem due_scheduled (c : HostCall) (rest : List HostCall) (s : State) (h : s.openCallbacks = []) :
    Due c { s with inputs := c :: rest } { s with inputs := rest } := .inr ⟨h, rest, rfl, rfl⟩

/-- A call that the open callback makes next is due. -/
theorem due_inside (c : HostCall) (cs : List CallbackCall) (q : Option Word) (o : TrapOutcome) (s : State) :
    Due c (inCallback (.call c :: cs) q o s) (inCallback cs q o s) := .inl ⟨_, cs, [], rfl, rfl, rfl⟩

theorem witness_ResetCallLoadsVector :
  Due .reset { start with inputs := [.reset, .irq] } { start with inputs := [.irq] } ∧
  Due .reset (inCallback [.call .reset] none .redirect start) (inCallback [] none .redirect start) :=
  ⟨due_scheduled _ _ start rfl, due_inside _ _ _ _ start⟩

/-- A state with an instruction, one with an interrupt, one with a trap callback, one with a full trap table, and one at a
callback's return. -/
theorem witness_StepKeepsInvariant :
  (∃ t, State.Inv (place 0xFFFF [0xA9, 0x80] start) ∧ step (place 0xFFFF [0xA9, 0x80] start) = .next t) ∧
  (∃ t, State.Inv (interruptible 0x20 [.irq]) ∧ step (interruptible 0x20 [.irq]) = .next t) ∧
  (∃ t, State.Inv (trapped [0xC000] .hookThenPush [callback 0 .fallThrough] (place 0x0200 [0x20, 0x00, 0xC0] start)) ∧
    step (trapped [0xC000] .hookThenPush [callback 0 .fallThrough] (place 0x0200 [0x20, 0x00, 0xC0] start)) = .next t) ∧
  (∃ t, State.Inv { trapped ((List.range 32).map (BitVec.ofNat 16)) .pushThenHook [] start with inputs := [.setpatch 0xFFFF] } ∧
    step { trapped ((List.range 32).map (BitVec.ofNat 16)) .pushThenHook [] start with inputs := [.setpatch 0xFFFF] } =
      .next t) ∧
  (∃ t, State.Inv (inCallback [] (some 0x0402) .fallThrough (trapped [0xC000] .hookThenPush [] start)) ∧
    step (inCallback [] (some 0x0402) .fallThrough (trapped [0xC000] .hookThenPush [] start)) = .next t) :=
  ⟨⟨_, by decide, rfl⟩, ⟨_, by decide, rfl⟩, ⟨_, by decide, rfl⟩, ⟨_, by decide, rfl⟩, ⟨_, by decide, rfl⟩⟩

/-- The state after reset, at a step that reads, and one whose history holds a write. -/
theorem witness_StepKeepsCoherence :
  (∃ t, State.Coherent State.reset ∧ step State.reset = .next t) ∧
  (∃ t, State.Coherent ({ State.reset with mem := [(5, 7)], history := [.write 5 7] } : State) ∧
    step { State.reset with mem := [(5, 7)], history := [.write 5 7] } = .next t) := by
  refine ⟨⟨_, ⟨by decide, by simp [State.reset, readsAgree, lastWrite], by simp [State.reset, lastWrite]⟩, rfl⟩,
    ⟨_, ⟨by decide, by simp [readsAgree], ?_⟩, rfl⟩⟩
  intro a v _ h
  simp only [lastWrite] at h
  split at h
  · subst_vars
    injection h
  · exact absurd h (by simp)

/-- A T4 byte, a T3 byte with `ADMIT_T3` false and with it true, and a T1 byte. -/
theorem witness_StepEndsOnlyAtRefusedBytes :
  (place 0x0200 [0xF2] start).Idle ∧ State.atRefusedByte (place 0x0200 [0xF2] start) ∧
  State.atRefusedByte (place 0xFFFF [0xEB] { start with params := { Params.initial with admitT3 := false } }) ∧
  ¬State.atRefusedByte (place 0xFFFF [0xEB] start) ∧ ¬State.atRefusedByte (place 0x0200 [0xEA] start) := by
  unfold State.atRefusedByte
  decide

theorem witness_LatchesAreUnobservable : (place 0x0200 [0x6C, 0xFF, 0x10] start).Idle := by decide

theorem witness_TiersFollowTheByteLists :
  (Instr.sloAbsx 0xFFFF).tier = .t2 ∧ Instr.nopImpFA.tier = .t3 ∧ Instr.jamF2.tier = .t4 ∧ Instr.brk.tier = .t1 := by decide

theorem witness_ReverseLookupFindsTheTierOneByte :
  Instr.brk.tier = .t1 ∧ (Instr.isbAbsx 0).tier = .t2 ∧ reverseLookup .isb .absx = some 0xFF ∧
  reverseLookup .jam .imp = none := by decide

/-- An instruction that answers a next state, one that wraps past $FFFF, and one that refuses. -/
theorem witness_StepRunsTheDecodedInstruction :
  (place 0x0200 [0xA9, 0x05] start).Idle ∧
  (let s := place 0xFFFE [0x8D, 0x20, 0xD0] start
   decode (s.bytesAtPc 3) = .ok (.staAbs 0xD020) [] ∧
   observe State.pc (exec (.staAbs 0xD020) (s.afterFetch 3)) = some 0x0001) ∧
  (let s := place 0x0200 [0x02] start
   decode (s.bytesAtPc 1) = .ok .jam02 [] ∧
   refusal (exec .jam02 (s.afterFetch 1)) = some (.unmodelledOpcode 0x02 0x0200)) := by decide

/-- Each mode, the operand at the end of its range where it has one. -/
theorem witness_EveryModeResolves :
  (place 0xFFFF [0xEA] start).fetch.1.operand.mode = .imp ∧
  (place 0xFFFF [0x0A] start).fetch.1.operand.mode = .acc ∧
  (place 0xFFFF [0xA9, 0xFF] start).fetch.1.operand.mode = .imm ∧
  (place 0xFFFF [0xA5, 0xFF] start).fetch.1.operand.mode = .zp ∧
  (place 0xFFFF [0xB5, 0xFF] start).fetch.1.operand.mode = .zpx ∧
  (place 0xFFFF [0xB6, 0xFF] start).fetch.1.operand.mode = .zpy ∧
  (place 0xFFFF [0xD0, 0x80] start).fetch.1.operand.mode = .rel ∧
  (place 0xFFFE [0xAD, 0xFF, 0xFF] start).fetch.1.operand.mode = .abs ∧
  (place 0xFFFE [0xBD, 0xFF, 0xFF] start).fetch.1.operand.mode = .absx ∧
  (place 0xFFFE [0xB9, 0xFF, 0xFF] start).fetch.1.operand.mode = .absy ∧
  (place 0xFFFF [0xA1, 0xFF] start).fetch.1.operand.mode = .indx ∧
  (place 0xFFFF [0xB1, 0xFF] start).fetch.1.operand.mode = .indy ∧
  (place 0xFFFE [0x6C, 0xFF, 0xFF] start).fetch.1.operand.mode = .ind := by decide

/-- Each of the four stores, with the next instruction as its target; PC stands past the instruction. -/
theorem witness_StoreIsSeenByTheNextFetch :
  (let s := { start with a := 0xEA, pc := 0x0203 }
   (Instr.staAbs 0x0203).mnemonic = .sta ∧ Memory.wf s.mem = true ∧ s.effective (.abs 0x0203) = s.pc ∧ s.envOwns s.pc = false) ∧
  (let s := { start with x := 0xEA, y := 0xFF, pc := 0x00FE }
   (Instr.stxZpy 0xFF).mnemonic = .stx ∧ Memory.wf s.mem = true ∧ s.effective (.zpy 0xFF) = s.pc ∧ s.envOwns s.pc = false) ∧
  (let s := { start with y := 0xEA, pc := 0x0003 }
   (Instr.styZp 0x03).mnemonic = .sty ∧ Memory.wf s.mem = true ∧ s.effective (.zp 0x03) = s.pc ∧ s.envOwns s.pc = false) ∧
  (let s := withMem [(0x00FF, 0x03), (0x0000, 0x02)] { start with a := 0xFF, pc := 0x0203 }
   (Instr.saxIndx 0xFF).mnemonic = .sax ∧ Memory.wf s.mem = true ∧ s.effective (.indx 0xFF) = s.pc ∧ s.envOwns s.pc = false) := by decide

theorem witness_LoadsWriteTheirRegister :
  (Instr.ldaIndx 0xFF).opcode = 0xA1 ∧ (Instr.ldxZpy 0xFF).opcode = 0xB6 ∧ (Instr.ldyAbsx 0xFFFF).opcode = 0xBC ∧
  (Instr.laxAbsy 0xFFFF).opcode = 0xBF := by decide

/-- A store onto a listed byte, with canonical memory, in plain RAM and at an address that the environment answers. -/
theorem witness_StoresWriteOneByte :
  Memory.wf (withMem [(0xFFFF, 1)] start).mem = true ∧ (withMem [(0xFFFF, 1)] start).envOwns 0xFFFF = false ∧
  (device [] start).envOwns 0xD020 = true ∧ (Instr.staAbsx 0xFFFF).opcode = 0x9D ∧
  (Instr.stxAbs 0xFFFF).opcode = 0x8E ∧ (Instr.styZpx 0xFF).opcode = 0x94 ∧ (Instr.saxIndx 0xFF).opcode = 0x83 := by decide

theorem witness_TransfersCopyARegister :
  Instr.tax.opcode = 0xAA ∧ Instr.tay.opcode = 0xA8 ∧ Instr.txa.opcode = 0x8A ∧ Instr.tya.opcode = 0x98 ∧
  Instr.tsx.opcode = 0xBA ∧ Instr.txs.opcode = 0x9A := by decide

/-- Binary; decimal with digits and under Spec; decimal with a free result. -/
theorem witness_AdcAddsWithCarry :
  (Instr.adcImm 0x99).opcode = 0x69 ∧ start.flag .d = false ∧
  ({ start with p := 0x28 } : State).flag .d = true ∧ ¬({ start with p := 0x28, a := 0x99 } : State).OpenDecimal 0x99 ∧
  ¬({ start with p := 0x28, a := 0x0F } : State).OpenDecimal 0xFF ∧
  ({ start with p := 0x28, a := 0x0A, params := { Params.initial with decNonBcd := .draw } } : State).OpenDecimal 0 := by
  unfold State.OpenDecimal Digits
  decide

theorem witness_SbcSubtractsWithBorrow :
  (Instr.sbcImm 0x99).opcode = 0xE9 ∧ (Instr.sbcImmEB 0x99).opcode = 0xEB ∧ start.params.admitT3 = true ∧
  ({ start with params := { Params.initial with admitT3 := false } } : State).params.admitT3 = false ∧
  ({ start with p := 0x28, a := 0xA0, params := { Params.initial with decNonBcd := .draw } } : State).OpenDecimal 0 := by
  unfold State.OpenDecimal Digits
  decide

/-- 99 and 99 with carry, and 00 less 99 with borrow. -/
theorem witness_DecimalModeComputesDecimalNumbers :
  (let s := { start with p := 0x29, a := 0x99 }
   (Instr.adcImm 0x99).tier = .t1 ∧ (Instr.adcImm 0x99).mnemonic = .adc ∧ s.flag .d = true ∧ Digits s.a ∧
   Digits (s.operandValue (.imm 0x99))) ∧
  (let s := { start with p := 0x28, a := 0x00 }
   (Instr.sbcImm 0x99).tier = .t1 ∧ (Instr.sbcImm 0x99).mnemonic = .sbc ∧ s.flag .d = true ∧ Digits s.a ∧
   Digits (s.operandValue (.imm 0x99))) := by
  unfold Digits
  decide

theorem witness_OverflowIsSignedOverflow :
  start.flag .d = false ∧ (Instr.adcImm 0x80).tier = .t1 ∧ (Instr.adcImm 0x80).mnemonic = .adc ∧
  (Instr.sbcImm 0x80).tier = .t1 ∧ (Instr.sbcImm 0x80).mnemonic = .sbc := by decide

theorem witness_LogicCombinesBits :
  (Instr.andIndy 0xFF).opcode = 0x31 ∧ (Instr.oraImm 0).opcode = 0x09 ∧ (Instr.eorAbsy 0xFFFF).opcode = 0x59 := by decide

theorem witness_ComparesSetFlagsOnly :
  (Instr.cmpImm 0xFF).opcode = 0xC9 ∧ (Instr.cpxZp 0xFF).opcode = 0xE4 ∧ (Instr.cpyAbs 0xFFFF).opcode = 0xCC := by decide

theorem witness_BitTestsMemory : (Instr.bitZp 0xFF).opcode = 0x24 ∧ (Instr.bitAbs 0xFFFF).opcode = 0x2C := by decide

theorem witness_IncrementsWrap :
  Memory.wf (withMem [(0x00FF, 0xFF)] start).mem = true ∧ (Instr.incZp 0xFF).opcode = 0xE6 ∧
  (Instr.decAbsx 0xFFFF).opcode = 0xDE ∧ Instr.inx.opcode = 0xE8 ∧ Instr.iny.opcode = 0xC8 ∧ Instr.dex.opcode = 0xCA ∧
  Instr.dey.opcode = 0x88 := by decide

theorem witness_ShiftsMoveBitsByOne :
  Memory.wf (withMem [(0x00FF, 0x80)] start).mem = true ∧ Instr.aslAcc.opcode = 0x0A ∧ (Instr.aslZpx 0xFF).opcode = 0x16 ∧
  Instr.lsrAcc.opcode = 0x4A ∧ (Instr.lsrAbs 0xFFFF).opcode = 0x4E := by decide

theorem witness_RotatesGoThroughCarry :
  Memory.wf (withMem [(0x00FF, 0x80)] start).mem = true ∧ Instr.rolAcc.opcode = 0x2A ∧ (Instr.rolAbsx 0xFFFF).opcode = 0x3E ∧
  Instr.rorAcc.opcode = 0x6A ∧ (Instr.rorZp 0xFF).opcode = 0x66 := by decide

/-- Both values of the flag that a branch tests. -/
theorem witness_BranchesTestOneFlag :
  (Instr.bplRel 0x80).opcode = 0x10 ∧ (Instr.bmiRel 0x80).opcode = 0x30 ∧ (Instr.bvcRel 0x80).opcode = 0x50 ∧
  (Instr.bvsRel 0x80).opcode = 0x70 ∧ (Instr.bccRel 0x7F).opcode = 0x90 ∧ (Instr.bcsRel 0x7F).opcode = 0xB0 ∧
  (Instr.bneRel 0xFE).opcode = 0xD0 ∧ (Instr.beqRel 0xFE).opcode = 0xF0 ∧
  (∀ f ∈ [Flag.n, .v, .c, .z], start.flag f = false ∧ ({ start with p := 0xFF } : State).flag f = true) := by decide

/-- A target outside TRAPS and one in TRAPS, in both modes, with both answers of the callback. -/
theorem witness_JmpTransfersThroughTheHook :
  (Instr.jmpAbs 0xC000).opcode = 0x4C ∧ (Instr.jmpInd 0x10FF).opcode = 0x6C ∧
  start.effective (.abs 0xC000) ∉ start.params.traps ∧ start.effective (.ind 0x10FF) ∉ start.params.traps ∧
  ∀ outcome ∈ [TrapOutcome.redirect, .fallThrough],
    (let s := trapped [0xC000] .pushThenHook [callback 0x0300 outcome] start
     s.effective (.abs 0xC000) ∈ s.params.traps ∧ s.nextTrap.outcome = outcome) ∧
    (let s := trapped [0xC000] .pushThenHook [callback 0x0300 outcome] (withMem [(0x1000, 0xC0)] start)
     s.effective (.ind 0x10FF) ∈ s.params.traps ∧ s.nextTrap.outcome = outcome) := by decide

/-- A target outside TRAPS, and one in TRAPS under both orders with both answers. -/
theorem witness_JsrPushesAndTransfers :
  (Instr.jsrAbs 0xC000).opcode = 0x20 ∧ start.effective (.abs 0xC000) ∉ start.params.traps ∧ Memory.wf start.mem = true ∧
  ∀ order ∈ [TrapJsrOrder.pushThenHook, .hookThenPush], ∀ outcome ∈ [TrapOutcome.redirect, .fallThrough],
    (let s := trapped [0xC000] order [callback 0x0300 outcome] start
     s.effective (.abs 0xC000) ∈ s.params.traps ∧ Memory.wf s.mem = true ∧ s.params.trapJsrOrder = order ∧
     s.nextTrap.outcome = outcome) := by decide

/-- Redirect with and without a push due, FallThrough with and without one, and a callback inside another. -/
theorem witness_TrapReturnEndsTheTransfer (push : Option Word) (outcome : TrapOutcome) :
  (let o : OpenCallback := { target := 0xC000, push := push, calls := [], outcome := outcome }
   (inCallback [] push outcome start).openCallbacks = o :: [] ∧
   ({ start with openCallbacks := [o, o] } : State).openCallbacks = o :: [o] ∧ o.calls = [] ∧ o.push = push ∧
   o.outcome = outcome) ∧ Memory.wf start.mem = true := ⟨⟨rfl, rfl, rfl, rfl, rfl⟩, by decide⟩

/-- Each register write, first in an open callback. -/
theorem witness_HostWritesOneRegister (w : RegWrite) :
  ∃ o : OpenCallback, (inCallback [.write w, .call .irq] none .redirect start).openCallbacks = o :: [] ∧
    o.calls = .write w :: [.call .irq] := ⟨_, rfl, rfl⟩

/-- No callback open: a call of each kind in the schedule, and a JMP that opens one. -/
theorem witness_OnlyTheHookRedirectsControl :
  Memory.wf (interruptible 0x20 []).mem = true ∧
  (∀ c ∈ [HostCall.clock false, .irq, .nmi, .reset, .peek 0, .poke 0 1, .setpatch 0xC000, .clock true, .fastclock],
    (interruptible 0x20 [c]).openCallbacks = [] ∧ (interruptible 0x20 [c]).inputs = c :: []) ∧
  (∃ t, step (interruptible 0x20 [.irq]) = .next t ∧ t.openCallbacks = []) ∧
  (let s := trapped [0xC000] .pushThenHook [callback 0 .redirect] (place 0x0200 [0x4C, 0x00, 0xC0] start)
   s.openCallbacks = [] ∧ Memory.wf s.mem = true ∧
   observe (fun t => t.openCallbacks.map OpenCallback.target) (step s) = some [0xC000]) :=
  ⟨by decide, fun _ _ => ⟨rfl, rfl⟩, ⟨_, rfl, rfl⟩, by decide⟩

/-- JMP in both modes to a trap address, with an empty callback that falls through. -/
theorem witness_CallbackThatOnlyFallsThrough :
  (let s := trapped [0xC000] .pushThenHook [{ calls := [], outcome := .fallThrough }] (place 0xFFFE [0x4C, 0x00, 0xC0] start)
   s.Idle ∧ (Instr.jmpAbs 0xC000).mnemonic = .jmp ∧ decode (s.bytesAtPc 3) = .ok (.jmpAbs 0xC000) [] ∧
   (s.afterFetch 3).effective (.abs 0xC000) ∈ s.params.traps ∧
   s.callbacks = { calls := [], outcome := .fallThrough } :: []) ∧
  (let s := trapped [0xC000] .hookThenPush [{ calls := [], outcome := .fallThrough }]
     (place 0x0200 [0x6C, 0xFF, 0x10] (withMem [(0x1000, 0xC0)] start))
   (Instr.jmpInd 0x10FF).mnemonic = .jmp ∧ decode (s.bytesAtPc 3) = .ok (.jmpInd 0x10FF) [] ∧
   (s.afterFetch 3).effective (.ind 0x10FF) ∈ s.params.traps) := by decide

/-- A default environment; a load and a store in plain RAM and at an answered address, with a scripted answer and without. -/
theorem witness_MemoryEnvironmentAnswersItsAddresses :
  start.params.memEnv = [] ∧ (Operand.abs 0xCFFF).mode ∉ [Mode.acc, .imm] ∧
  (device [] start).envOwns ((device [] start).effective (.abs 0xCFFF)) = false ∧
  (device [0x55] start).envOwns 0xD000 = true ∧ (device [0x55] start).answers = 0x55 :: [] ∧
  (device [] start).envOwns 0xDFFF = true ∧ (device [] start).answers = [] := by decide

theorem witness_OnlyJumpsFireTheHook : ∃ t, Instr.rts.mnemonic ≠ .jmp ∧ Instr.rts.mnemonic ≠ .jsr ∧ exec .rts start = .next t :=
  ⟨_, by decide, by decide, rfl⟩

theorem witness_RtsReturnsAfterTheCall : Instr.rts.opcode = 0x60 := by decide

/-- A JSR with the stack pointer at 0, and the RTS in the very state it leaves. -/
theorem witness_RtsUndoesJsr :
  (0x3000 : Word) ∉ ({ start with sp := 0 } : State).params.traps ∧ Memory.wf start.mem = true ∧
  start.envOwns (stackAddr 0) = false ∧ start.envOwns (stackAddr (0 - 1)) = false ∧
  ∃ t u, exec (.jsrAbs 0x3000) { start with sp := 0, pc := 0x0203 } = .next t ∧ u = t ∧ u.sp = t.sp ∧
    u.params.memEnv = start.params.memEnv :=
  ⟨by decide, by decide, by decide, by decide, _, _, rfl, rfl, rfl, rfl⟩

theorem witness_PushesStoreInPageOne :
  Memory.wf ({ start with sp := 0 } : State).mem = true ∧ Instr.pha.opcode = 0x48 ∧ Instr.php.opcode = 0x08 := by decide

theorem witness_PullsReadPageOne : Instr.pla.opcode = 0x68 ∧ Instr.plp.opcode = 0x28 := by decide

theorem witness_FlagInstructionsWriteOneFlag :
  Instr.clc.opcode = 0x18 ∧ Instr.sec.opcode = 0x38 ∧ Instr.cli.opcode = 0x58 ∧ Instr.sei.opcode = 0x78 ∧
  Instr.cld.opcode = 0xD8 ∧ Instr.sed.opcode = 0xF8 ∧ Instr.clv.opcode = 0xB8 := by decide

theorem witness_NopsChangeNothing :
  Instr.nop.opcode = 0xEA ∧ (Instr.nopAbsxFC 0xFFFF).opcode = 0xFC ∧ start.params.admitT3 = true ∧
  ({ start with params := { Params.initial with admitT3 := false } } : State).params.admitT3 = false := by decide

theorem witness_BrkEntersTheHandler : Instr.brk.opcode = 0x00 ∧ Memory.wf (interruptible 0x24 []).mem = true := by decide

theorem witness_RtiReturnsFromTheHandler : Instr.rti.opcode = 0x40 := by decide

theorem witness_IrqIsMaskedByI :
  Due .irq (interruptible 0x24 [.irq]) (interruptible 0x24 []) ∧ (interruptible 0x24 [.irq]).flag .i = true ∧
  Due .irq (inCallback [.call .irq] none .redirect (interruptible 0x20 [])) (inCallback [] none .redirect (interruptible 0x20 [])) ∧
  (interruptible 0x20 []).flag .i = false ∧ Memory.wf (interruptible 0x20 []).mem = true :=
  ⟨due_scheduled _ _ (interruptible 0x24 []) rfl, by decide, due_inside _ _ _ _ _, by decide, by decide⟩

theorem witness_NmiIsAlwaysTaken :
  Due .nmi (interruptible 0x24 [.nmi]) (interruptible 0x24 []) ∧
  Due .nmi (inCallback [.call .nmi] none .redirect (interruptible 0x24 [])) (inCallback [] none .redirect (interruptible 0x24 [])) ∧
  Memory.wf (interruptible 0x24 []).mem = true :=
  ⟨due_scheduled _ _ (interruptible 0x24 []) rfl, due_inside _ _ _ _ _, by decide⟩

/-- Both orders, with the second call due after the first. -/
theorem witness_OrderOfSimultaneousInterrupts :
  Memory.wf (interruptible 0x24 []).mem = true ∧
  Due .nmi (interruptible 0x24 [.nmi, .irq]) (interruptible 0x24 [.irq]) ∧
  (∃ t v, step (interruptible 0x24 [.nmi, .irq]) = .next t ∧ Due .irq t v) ∧
  Due .irq (interruptible 0x20 [.irq, .nmi]) (interruptible 0x20 [.nmi]) ∧ (interruptible 0x20 [.irq, .nmi]).flag .i = false ∧
  (∃ t v, step (interruptible 0x20 [.irq, .nmi]) = .next t ∧ Due .nmi t v) :=
  ⟨by decide, due_scheduled _ _ (interruptible 0x24 []) rfl, ⟨_, _, rfl, .inr ⟨rfl, _, rfl, rfl⟩⟩,
    due_scheduled _ _ (interruptible 0x20 []) rfl, by decide, ⟨_, _, rfl, .inr ⟨rfl, _, rfl, rfl⟩⟩⟩

/-- Each of the three entries, and a handler's state: the very state it leaves. -/
theorem witness_RtiResumesTheInterruptedCode :
  (∀ k ∈ [0, 1, 2], start.envOwns (stackAddr (0xFD - k)) = false) ∧
  (∃ t, Due .irq (interruptible 0x23 [.irq]) (interruptible 0x23 []) ∧ (interruptible 0x23 [.irq]).flag .i = false ∧
    Memory.wf (interruptible 0x23 [.irq]).mem = true ∧ step (interruptible 0x23 [.irq]) = .next t ∧
    t.params.memEnv = (interruptible 0x23 [.irq]).params.memEnv) ∧
  (∃ t, Due .nmi (interruptible 0x24 [.nmi]) (interruptible 0x24 []) ∧ step (interruptible 0x24 [.nmi]) = .next t) ∧
  (∃ t, exec .brk (interruptible 0x24 []) = .next t) :=
  ⟨by decide, ⟨_, due_scheduled _ _ (interruptible 0x23 []) rfl, by decide, by decide, rfl, rfl⟩,
    ⟨_, due_scheduled _ _ (interruptible 0x24 []) rfl, rfl⟩, ⟨_, rfl⟩⟩

/-- Each of the calls that run one instruction or none, between instructions and inside a callback. -/
theorem witness_HostCallsRunOneInstructionOrNone (c : HostCall) :
  Due c { start with inputs := [c] } start ∧ Due c (inCallback [.call c] none .redirect start) (inCallback [] none .redirect start) ∧
  start.Idle := ⟨due_scheduled _ _ start rfl, due_inside _ _ _ _ start, rfl, rfl⟩

/-- A table with room, and a full one. -/
theorem witness_SetpatchKeepsASortedTable :
  (let s := trapped [0x0100, 0x0300] .pushThenHook [] start
   Due (.setpatch 0x0200) { s with inputs := [.setpatch 0x0200] } s ∧ s.params.wf = true ∧ s.params.traps.length < 32) ∧
  (let s := trapped ((List.range 32).map (BitVec.ofNat 16)) .pushThenHook [] start
   Due (.setpatch 0x0200) { s with inputs := [.setpatch 0x0200] } s ∧ s.params.wf = true ∧ ¬s.params.traps.length < 32) :=
  ⟨⟨.inr ⟨rfl, [], rfl, rfl⟩, by decide, by decide⟩, ⟨.inr ⟨rfl, [], rfl, rfl⟩, by decide, by decide⟩⟩

/-- Plain RAM, an answered address with a scripted answer, and one without. -/
theorem witness_HostAccessesTakeTheirPlace :
  start.envOwns 0xFFFF = false ∧ Memory.wf start.mem = true ∧ (device [0x12] start).envOwns 0xD012 = true ∧
  (device [0x12] start).answers = 0x12 :: [] ∧ (device [] start).envOwns 0xD012 = true ∧ (device [] start).answers = [] ∧
  (∀ a, Due (.peek a) { device [0x12] start with inputs := [.peek a] } (device [0x12] start)) ∧
  (∀ a v, Due (.poke a v) { start with inputs := [.poke a v] } start) :=
  ⟨by decide, by decide, by decide, by decide, by decide, by decide, fun _ => .inr ⟨rfl, [], rfl, rfl⟩,
    fun _ _ => due_scheduled _ _ start rfl⟩

theorem witness_ShiftThenLogicFamilies :
  (Instr.sloIndx 0xFF).opcode = 0x03 ∧ (Instr.rlaAbsy 0xFFFF).opcode = 0x3B ∧ (Instr.sreIndy 0xFF).opcode = 0x53 ∧
  Memory.wf (withMem [(0x00FF, 1)] start).mem = true := by decide

theorem witness_ModifyThenArithmeticFamilies :
  (Instr.rraZp 0xFF).opcode = 0x67 ∧ (Instr.isbAbsx 0xFFFF).opcode = 0xFF ∧
  Memory.wf (withMem [(0x00FF, 1)] { start with p := 0x29 }).mem = true := by decide

theorem witness_DcpDecrementsThenCompares :
  (Instr.dcpZpx 0xFF).opcode = 0xD7 ∧ Memory.wf (withMem [(0x00FF, 1)] start).mem = true := by decide

theorem witness_RefusedBytesRefuse : Instr.jam02.opcode = 0x02 ∧ (Instr.lasAbsy 0xFFFF).opcode = 0xBB := by decide

/-- STA writes no flag, and LDA writes Z and N only. -/
theorem witness_FlagsHaveTheirWriters :
  (∃ t, exec (.staAbs 0xFFFF) start = .next t ∧ (Instr.staAbs 0xFFFF).mnemonic ∉ [Mnemonic.plp, .rti] ∧
    (Instr.staAbs 0xFFFF).mnemonic ∈ [Mnemonic.sta, .stx]) ∧
  (∃ t, exec (.ldaImm 0) start = .next t ∧ (Instr.ldaImm 0).mnemonic ∉ [Mnemonic.plp, .rti, .adc, .clc, .sei, .sed, .bit]) :=
  ⟨⟨_, rfl, by decide, by decide⟩, ⟨_, rfl, by decide⟩⟩

/-- STA writes no register; ASL of a memory byte leaves A. -/
theorem witness_RegistersHaveTheirWriters :
  (∃ t, exec (.staAbs 0xFFFF) start = .next t ∧ (Instr.staAbs 0xFFFF).mnemonic ∉ [Mnemonic.lda, .ldx, .ldy, .txs]) ∧
  (∃ t, exec (.aslZp 0xFF) start = .next t ∧ (Instr.aslZp 0xFF).operand.mode ≠ .acc) :=
  ⟨⟨_, rfl, by decide⟩, ⟨_, rfl, by decide⟩⟩

/-- A load, a shift of A, and a jump store nothing. -/
theorem witness_MemoryHasItsWriters :
  (∃ t, exec (.ldaAbs 0xFFFF) start = .next t) ∧ (∃ t, exec .aslAcc start = .next t ∧ Instr.aslAcc.operand.mode = .acc) ∧
  (∃ t, exec (.jmpAbs 0xC000) (trapped [0xC000] .pushThenHook [] start) = .next t) :=
  ⟨⟨_, rfl⟩, ⟨_, rfl, by decide⟩, ⟨_, rfl⟩⟩


end Sys2Proof.Tests
end

namespace Sys2Proof.Machine

/-! ## The trap table under `setpatch` (60_exceptions.md R442) -/

/-- A table is strictly rising exactly if each address is below every later one. -/
theorem rising_iff (l : List Word) : rising l = true ↔ l.Pairwise (·.toNat < ·.toNat) := by
  induction l with
  | nil => simp [rising]
  | cons t l ih =>
    cases l with
    | nil => simp [rising]
    | cons u l =>
      rw [List.pairwise_cons, ← ih, rising, Bool.and_eq_true, decide_eq_true_eq, and_congr_left_iff, ih]
      intro hl
      have hu := (List.pairwise_cons.1 hl).1
      exact ⟨fun h => List.forall_mem_cons.2 ⟨h, fun v hv => h.trans (hu v hv)⟩, fun h => h u List.mem_cons_self⟩

@[simp] theorem mem_insertTrap (t u : Word) (l : List Word) : u ∈ insertTrap t l ↔ u = t ∨ u ∈ l := by
  induction l with
  | nil => simp [insertTrap]
  | cons v l ih => grind [insertTrap]

theorem length_insertTrap_le (t : Word) (l : List Word) : (insertTrap t l).length ≤ l.length + 1 := by
  induction l with
  | nil => simp [insertTrap]
  | cons v l ih => grind [insertTrap]

theorem rising_insertTrap (t : Word) {l : List Word} (h : rising l = true) : rising (insertTrap t l) = true := by
  rw [rising_iff] at h ⊢
  induction l with
  | nil => simp [insertTrap]
  | cons u l ih =>
    obtain ⟨hu, hl⟩ := List.pairwise_cons.1 h
    unfold insertTrap
    split_ifs with hlt heq
    · exact List.pairwise_cons.2 ⟨fun v hv => by grind, h⟩
    · exact h
    · refine List.pairwise_cons.2 ⟨fun v hv => ?_, ih hl⟩
      rcases (mem_insertTrap t v l).1 hv with rfl | hv
      · have := mt BitVec.eq_of_toNat_eq heq
        omega
      · exact hu v hv

/-- A new trap address leaves every address of the table in it. -/
theorem mem_addTrap_of_mem {t u : Word} {l : List Word} (h : u ∈ l) : u ∈ addTrap t l := by
  unfold addTrap
  split
  · exact (mem_insertTrap t u l).2 (.inr h)
  · exact h

/-- A new trap address leaves the table one that the host can have. -/
theorem wf_addTrap (t : Word) {q : Params} (h : q.wf = true) : ({ q with traps := addTrap t q.traps } : Params).wf = true := by
  simp only [Params.wf, Bool.and_eq_true, decide_eq_true_eq] at h ⊢
  unfold addTrap
  split
  · have := length_insertTrap_le t q.traps
    exact ⟨rising_insertTrap t h.1, by omega⟩
  · exact h

/-! ## The invariant -/

/-- Every primitive update keeps the invariant, so all that is made of them does. -/
theorem Evolves.inv {s t : State} (h : Evolves s t) (hs : s.Inv) : t.Inv := by
  induction h with
  | data hp hm _ hq ho => simpa only [State.Inv, hp, hm, hq, ho] using hs
  | callbacks h =>
    obtain ⟨hp, hm, hq, ho⟩ := hs
    refine ⟨hp, hm, hq, fun o hmem => ?_⟩
    obtain ⟨q, hmem, htarget⟩ := h o hmem
    exact htarget ▸ ho q hmem
  | writeP v s => exact ⟨State.constant_writeP v s, hs.2⟩
  | read a s => exact hs
  | hostRead a s => exact hs
  | write a v s | hostWrite a v s =>
    obtain ⟨hp, hm, hrest⟩ := hs
    exact ⟨hp, State.wf_pokeMem a v hm, hrest⟩
  | hook h =>
    obtain ⟨hp, hm, hq, ho⟩ := hs
    exact ⟨hp, hm, hq, List.forall_mem_cons.2 ⟨h, ho⟩⟩
  | setpatch t s =>
    obtain ⟨hp, hm, hq, ho⟩ := hs
    exact ⟨hp, hm, wf_addTrap t hq, fun o hmem => mem_addTrap_of_mem (ho o hmem)⟩
  | trans _ _ ih ih' => exact ih' (ih hs)

/-- Settles O4: a step is made of primitive updates, and each of them keeps the invariant. -/
theorem stepKeepsInvariant : Obligations.StepKeepsInvariant :=
  fun _ _ hs h => (Evolves.step h).inv hs

/-- Settles O3, by evaluation. -/
theorem resetMeetsInvariant : Obligations.ResetMeetsInvariant :=
  ⟨rfl, rfl, rfl, List.forall_mem_nil _⟩

/-- Settles O1, by evaluation. -/
theorem resetStateHoldsSpecValues : Obligations.ResetStateHoldsSpecValues :=
  ⟨rfl, rfl, rfl, rfl, rfl⟩

end Sys2Proof.Machine

namespace Sys2Proof.Machine

/-! ## Which registers and flags an operation writes (10_state.md R31 to R45)

One table for all identities, and one proof, operation by operation, that nothing outside the table changes. -/

/-- The registers that an identity writes. `acc` says whether its operand is the accumulator, where a shift leaves its
result. -/
def writtenRegs (acc : Bool) : Mnemonic → List Reg
  | .lda | .txa | .tya | .adc | .sbc | .and | .ora | .eor | .slo | .rla | .sre | .rra | .isb => [.a]
  | .ldx | .tax | .tsx | .inx | .dex => [.x]
  | .ldy | .tay | .iny | .dey => [.y]
  | .txs | .pha | .php | .plp | .jsr | .rts | .rti | .brk => [.sp]
  | .lax => [.a, .x]
  | .pla => [.a, .sp]
  | .asl | .lsr | .rol | .ror => if acc then [.a] else []
  | _ => []

/-- The flags that an identity writes. -/
def writtenFlags : Mnemonic → List Flag
  | .lda | .ldx | .ldy | .tax | .tay | .txa | .tya | .tsx | .and | .ora | .eor | .inc | .dec | .inx | .iny | .dex | .dey |
    .pla | .lax => [.z, .n]
  | .cmp | .cpx | .cpy | .dcp | .asl | .lsr | .rol | .ror | .slo | .rla | .sre => [.c, .z, .n]
  | .adc | .sbc | .rra | .isb => [.c, .z, .v, .n]
  | .bit => [.z, .v, .n]
  | .clc | .sec => [.c]
  | .cli | .sei | .brk => [.i]
  | .cld | .sed => [.d]
  | .clv => [.v]
  | .plp | .rti => [.c, .z, .i, .d, .b, .v, .n]
  | _ => []

/-- Registers outside `R` and flags outside `F` are as before. -/
structure WritesOnly (R : List Reg) (F : List Flag) (s t : State) : Prop where
  regs : ∀ r, r ∉ R → t.reg r = s.reg r
  flags : ∀ f, f ∉ F → t.flag f = s.flag f

namespace WritesOnly

variable {R : List Reg} {F : List Flag}

theorem trans {s t u : State} (h : WritesOnly R F s t) (h' : WritesOnly R F t u) : WritesOnly R F s u :=
  ⟨fun r hr => (h'.regs r hr).trans (h.regs r hr), fun f hf => (h'.flags f hf).trans (h.flags f hf)⟩

/-- An update of none of A, X, Y, SP and P writes nothing listed. -/
theorem of_eq {s t : State} (ha : t.a = s.a) (hx : t.x = s.x) (hy : t.y = s.y) (hsp : t.sp = s.sp) (hp : t.p = s.p) :
    WritesOnly R F s t :=
  ⟨fun r _ => by cases r <;> assumption, fun f _ => by simp only [State.flag, hp]⟩

theorem refl (s : State) : WritesOnly R F s s := .of_eq rfl rfl rfl rfl rfl

/-! ### Primitive updates -/

/-- An update of the register `q` alone. -/
theorem of_reg {q : Reg} {s t : State} (hq : q ∈ R) (h : ∀ r, r ≠ q → t.reg r = s.reg r) (hp : t.p = s.p) :
    WritesOnly R F s t :=
  ⟨fun r hr => h r fun e => hr (e ▸ hq), fun f _ => by simp only [State.flag, hp]⟩

theorem setA (v : Byte) (s : State) (h : .a ∈ R := by simp [writtenRegs, *]) : WritesOnly R F s (s.setA v) :=
  .of_reg h (fun r hr => by cases r <;> trivial) rfl

theorem setX (v : Byte) (s : State) (h : .x ∈ R := by simp [writtenRegs, *]) : WritesOnly R F s (s.setX v) :=
  .of_reg h (fun r hr => by cases r <;> trivial) rfl

theorem setY (v : Byte) (s : State) (h : .y ∈ R := by simp [writtenRegs, *]) : WritesOnly R F s (s.setY v) :=
  .of_reg h (fun r hr => by cases r <;> trivial) rfl

theorem setSp (v : Byte) (s : State) (h : .sp ∈ R := by simp [writtenRegs, *]) : WritesOnly R F s (s.setSp v) :=
  .of_reg h (fun r hr => by cases r <;> trivial) rfl

theorem setFlag (f : Flag) (b : Bool) (s : State) (h : f ∈ F := by simp [writtenFlags, *]) :
    WritesOnly R F s (s.setFlag f b) :=
  ⟨fun _ _ => rfl, fun g hg => by rw [State.flag_setFlag, if_neg (ne_of_mem_of_not_mem h hg).symm]⟩

theorem writeP (v : Byte) (s : State) (h : ∀ f, f ∈ F) : WritesOnly R F s (s.writeP v) :=
  ⟨fun _ _ => rfl, fun f hf => absurd (h f) hf⟩

theorem setPc (v : Word) (s : State) : WritesOnly R F s (s.setPc v) := .of_eq rfl rfl rfl rfl rfl

theorem read (a : Word) (s : State) : WritesOnly R F s (s.afterRead a) := .of_eq rfl rfl rfl rfl rfl

theorem write (a : Word) (v : Byte) (s : State) : WritesOnly R F s (s.memWrite a v) := .of_eq rfl rfl rfl rfl rfl

/-! ### Shared operations -/

theorem setZN (r : Byte) (s : State) (hz : .z ∈ F := by simp [writtenFlags, *]) (hn : .n ∈ F := by simp [writtenFlags, *]) :
    WritesOnly R F s (s.setZN r) := .trans (.setFlag .z _ s) (.setFlag .n _ _)

theorem compare (reg m : Byte) (s : State) (hc : .c ∈ F := by simp [writtenFlags, *]) (hz : .z ∈ F := by simp [writtenFlags, *])
    (hn : .n ∈ F := by simp [writtenFlags, *]) : WritesOnly R F s (s.compare reg m) :=
  .trans (.setFlag .c _ s) (.setZN _ _)

theorem shiftFlags (q : ShiftResult) (s : State) (hc : .c ∈ F := by simp [writtenFlags, *])
    (hz : .z ∈ F := by simp [writtenFlags, *]) (hn : .n ∈ F := by simp [writtenFlags, *]) : WritesOnly R F s (s.shiftFlags q) :=
  .trans (.setFlag .c _ s) (.setZN _ _)

/-- An addition or subtraction writes A and C, Z, V, N, whichever of its results it takes. -/
theorem of_arithFrame {s t : State} (h : ArithFrame s t) : WritesOnly [.a] [.c, .z, .v, .n] s t := by
  obtain ⟨-, hx, hy, hsp, hf, -⟩ := h
  refine ⟨fun r hr => ?_, hf⟩
  cases r
  case a => simp at hr
  all_goals assumption

theorem addWithCarry (m : Byte) (s : State) : WritesOnly [.a] [.c, .z, .v, .n] s (s.addWithCarry m) :=
  .of_arithFrame (s.addWithCarry_frame m).1

theorem subWithBorrow (m : Byte) (s : State) : WritesOnly [.a] [.c, .z, .v, .n] s (s.subWithBorrow m) :=
  .of_arithFrame (s.subWithBorrow_frame m).1

theorem resolve (o : Operand) (s : State) : WritesOnly R F s (s.resolve o) :=
  .of_eq (by simp) (by simp) (by simp) (by simp) (by simp)

theorem resolveLoad (o : Operand) (s : State) : WritesOnly R F s ((s.resolve o).load o).2 :=
  .of_eq (by simp) (by simp) (by simp) (by simp) (by simp)

theorem resolveRead (o : Operand) (a : Word) (s : State) : WritesOnly R F s ((s.resolve o).afterRead a) :=
  .trans (.resolve o s) (.read a _)

/-- A store in accumulator mode writes A; in any other mode no register. -/
theorem store (o : Operand) (v : Byte) (s : State) (h : isAcc o = true → .a ∈ R := by simp +contextual [writtenRegs]) :
    WritesOnly R F s (s.store o v) := by
  cases o
  case acc => exact .setA v s (h rfl)
  all_goals exact .write _ v s

theorem push (v : Byte) (s : State) (h : .sp ∈ R := by simp [writtenRegs, *]) : WritesOnly R F s (s.push v) :=
  .trans (.write _ v s) (.setSp _ _)

theorem pull (s : State) (h : .sp ∈ R := by simp [writtenRegs, *]) : WritesOnly R F s s.pull.2 :=
  .trans (.setSp _ s) (.read _ _)

theorem push16 (w : Word) (s : State) (h : .sp ∈ R := by simp [writtenRegs, *]) : WritesOnly R F s (s.push16 w) :=
  .trans (.push _ s) (.push _ _)

theorem pull16 (s : State) (h : .sp ∈ R := by simp [writtenRegs, *]) : WritesOnly R F s s.pull16.2 :=
  .trans (.pull s) (.pull _)

theorem enterHandler (ret : Word) (pushed : Byte) (v : Word) (s : State) :
    WritesOnly [.sp] [.i] s (s.enterHandler ret pushed v) := by
  unfold State.enterHandler
  exact .trans (.trans (.trans (.trans (.push16 ret s) (.push pushed _)) (.setFlag .i true _))
    (.trans (.read v _) (.read _ _))) (.setPc _ _)

theorem returnFromHandler (s : State) : WritesOnly [.sp] [.c, .z, .i, .d, .b, .v, .n] s s.returnFromHandler :=
  .trans (.trans (.trans (.pull s) (.writeP _ _ fun f => by cases f <;> decide)) (.pull16 _)) (.setPc _ _)

theorem trapTransfer (t : Word) (s : State) : WritesOnly R F s (s.trapTransfer t) := by
  unfold State.trapTransfer
  split
  · exact .of_eq rfl rfl rfl rfl rfl
  · exact .setPc t s

theorem branchOn (c : Bool) (o : Operand) (s : State) : WritesOnly R F s (branchOn c o s) := by
  cases c
  · exact .resolve o s
  · exact .trans (.resolve o s) (.setPc _ _)

theorem jsrOp (o : Operand) (s : State) : WritesOnly [.sp] F s (jsrOp o s) := by
  unfold Machine.jsrOp
  refine .trans (.resolve o s) ?_
  simp only
  split
  · exact .of_eq rfl rfl rfl rfl rfl
  · exact .trans (.push16 _ _) (.trapTransfer _ _)

/-- Every operation writes only the registers and flags of its identity's row. -/
theorem opOf (m : Mnemonic) (o : Operand) (s : State) :
    WritesOnly (writtenRegs (isAcc o) m) (writtenFlags m) s (opOf m o s) := by
  cases m
  case lda | and | ora | eor => exact .trans (.resolveLoad o s) (.trans (.setA _ _) (.setZN _ _))
  case ldx => exact .trans (.resolveLoad o s) (.trans (.setX _ _) (.setZN _ _))
  case ldy => exact .trans (.resolveLoad o s) (.trans (.setY _ _) (.setZN _ _))
  case sta | stx | sty | sax => exact .trans (.resolve o s) (.write _ _ _)
  case txa | tya => exact .trans (.setA _ s) (.setZN _ _)
  case tax | tsx | inx | dex => exact .trans (.setX _ s) (.setZN _ _)
  case tay | iny | dey => exact .trans (.setY _ s) (.setZN _ _)
  case txs => exact .setSp _ s
  case adc => exact .trans (.resolveLoad o s) (.addWithCarry _ _)
  case sbc => exact .trans (.resolveLoad o s) (.subWithBorrow _ _)
  case cmp | cpx | cpy => exact .trans (.resolveLoad o s) (.compare _ _ _)
  case bit =>
    exact .trans (.resolveLoad o s) (.trans (.trans (.setFlag .z _ _) (.setFlag .v _ _)) (.setFlag .n _ _))
  case inc | dec => exact .trans (.resolveRead o _ s) (.trans (.write _ _ _) (.setZN _ _))
  case asl | lsr | rol | ror => exact .trans (.resolveLoad o s) (.trans (.shiftFlags _ _) (.store o _ _))
  case bpl | bmi | bvc | bvs | bcc | bcs | bne | beq => exact .branchOn _ o s
  case jmp => exact .trans (.resolve o s) (.trapTransfer _ _)
  case jsr => exact .jsrOp o s
  case rts => exact .trans (.pull16 s) (.setPc _ _)
  case pha | php => exact .push _ s
  case pla => exact .trans (.pull s) (.trans (.setA _ _) (.setZN _ _))
  case plp => exact .trans (.pull s) (.writeP _ _ fun f => by cases f <;> decide)
  case clc | sec | cli | sei | cld | sed | clv => exact .setFlag _ _ s
  case nop =>
    cases o
    case imp => exact .refl s
    all_goals exact .resolveLoad _ s
  case brk => exact .enterHandler _ _ _ s
  case rti => exact .returnFromHandler s
  case slo | rla | sre =>
    exact .trans (.resolveRead o _ s) (.trans (.shiftFlags _ _) (.trans (.write _ _ _) (.trans (.setA _ _) (.setZN _ _))))
  case rra => exact .trans (.resolveRead o _ s) (.trans (.shiftFlags _ _) (.trans (.write _ _ _) (.addWithCarry _ _)))
  case lax => exact .trans (.resolveRead o _ s) (.trans (.trans (.setA _ _) (.setX _ _)) (.setZN _ _))
  case dcp => exact .trans (.resolveRead o _ s) (.trans (.write _ _ _) (.compare _ _ _))
  case isb => exact .trans (.resolveRead o _ s) (.trans (.write _ _ _) (.subWithBorrow _ _))
  all_goals exact .refl s

theorem exec {i : Instr} {s t : State} (h : exec i s = .next t) :
    WritesOnly (writtenRegs (isAcc i.operand) i.mnemonic) (writtenFlags i.mnemonic) s t :=
  (exec_next h).2 ▸ .opOf _ _ s

end WritesOnly

theorem isAcc_eq_false_of_mode {o : Operand} (h : o.mode ≠ .acc) : isAcc o = false := by
  cases o
  case acc => exact absurd rfl h
  all_goals rfl

/-- The rows of the flag table, PLP and RTI apart, read by flag. -/
theorem writers_of_flags (m : Mnemonic) : m ∉ [.plp, .rti] →
    (.c ∈ writtenFlags m → m ∈ [.adc, .sbc, .cmp, .cpx, .cpy, .asl, .lsr, .rol, .ror, .clc, .sec, .slo, .rla, .sre, .rra,
      .dcp, .isb]) ∧
    (.i ∈ writtenFlags m → m ∈ [.sei, .cli, .brk]) ∧ (.d ∈ writtenFlags m → m ∈ [.sed, .cld]) ∧ .b ∉ writtenFlags m ∧
    (.v ∈ writtenFlags m → m ∈ [.adc, .sbc, .rra, .isb, .bit, .clv]) ∧
    (m ∈ [.sta, .stx, .sty, .sax, .txs, .pha, .php, .nop, .brk, .rts, .clc, .sec, .cli, .sei, .cld, .sed,
      .clv, .bpl, .bmi, .bvc, .bvs, .bcc, .bcs, .bne, .beq, .jmp, .jsr] → .z ∉ writtenFlags m ∧ .n ∉ writtenFlags m) := by
  cases m <;> decide

/-- The rows of the register table read by register; for A, in the modes other than the accumulator. -/
theorem writers_of_regs (m : Mnemonic) (acc : Bool) :
    (.a ∈ writtenRegs false m →
      m ∈ [.lda, .pla, .txa, .tya, .adc, .sbc, .and, .ora, .eor, .lax, .slo, .rla, .sre, .rra, .isb]) ∧
    (.x ∈ writtenRegs acc m → m ∈ [.ldx, .tax, .tsx, .inx, .dex, .lax]) ∧
    (.y ∈ writtenRegs acc m → m ∈ [.ldy, .tay, .iny, .dey]) ∧
    (.sp ∈ writtenRegs acc m → m ∈ [.txs, .pha, .php, .pla, .plp, .jsr, .rts, .rti, .brk]) := by
  revert acc
  cases m <;> decide

/-- Settles O53: exec writes no flag outside its identity's row of the table. -/
theorem flagsHaveTheirWriters : Obligations.FlagsHaveTheirWriters := by
  intro i s t h hm
  have hw := WritesOnly.exec h
  obtain ⟨hc, hi, hd, hb, hv, hzn⟩ := writers_of_flags i.mnemonic hm
  exact ⟨fun hn => hw.flags .c (mt hc hn), fun hn => hw.flags .i (mt hi hn), fun hn => hw.flags .d (mt hd hn),
    hw.flags .b hb, fun hn => hw.flags .v (mt hv hn), fun hn => ⟨hw.flags .z (hzn hn).1, hw.flags .n (hzn hn).2⟩⟩

/-- Settles O54: exec writes no register outside its identity's row of the table. -/
theorem registersHaveTheirWriters : Obligations.RegistersHaveTheirWriters := by
  intro i s t h
  have hw := WritesOnly.exec h
  obtain ⟨ha, hx, hy, hsp⟩ := writers_of_regs i.mnemonic (isAcc i.operand)
  refine ⟨fun hn hacc => hw.regs .a ?_, fun hn => hw.regs .x (mt hx hn), fun hn => hw.regs .y (mt hy hn),
    fun hn => hw.regs .sp (mt hsp hn)⟩
  rw [isAcc_eq_false_of_mode hacc]
  exact mt ha hn

end Sys2Proof.Machine

namespace Sys2Proof.Machine

/-! ## The latches and `debt` are unobservable (10_state.md R47, R48)

An operation on a state with other latches gives what it gives on the state itself, with other latches: `latch` moves outward
through every operation, up to `settle`, which overwrites what it wrote. Resolve is where the latch `ea` gets the value that an
operand in memory is accessed by. -/

/-- The state with other latches and another `debt`. -/
def State.latch (q : BoundaryDraw) (s : State) : State :=
  { s with opcode := q.opcode, ea := q.ea, ra := q.ra, debt := q.debt }

section

variable (q : BoundaryDraw) (s : State)

@[simp] theorem State.latch_a : (s.latch q).a = s.a := rfl
@[simp] theorem State.latch_x : (s.latch q).x = s.x := rfl
@[simp] theorem State.latch_y : (s.latch q).y = s.y := rfl
@[simp] theorem State.latch_sp : (s.latch q).sp = s.sp := rfl
@[simp] theorem State.latch_pc : (s.latch q).pc = s.pc := rfl
@[simp] theorem State.latch_ea : (s.latch q).ea = q.ea := rfl
@[simp] theorem State.latch_params : (s.latch q).params = s.params := rfl
@[simp] theorem State.latch_flag (f : Flag) : (s.latch q).flag f = s.flag f := rfl
@[simp] theorem State.latch_peekValue (a : Word) : (s.latch q).peekValue a = s.peekValue a := rfl

/-- The boundary overwrites the latches and `debt`. -/
@[simp] theorem State.settle_latch : (s.latch q).settle = s.settle := rfl

/-! ### Updates that do not look at the latches -/

@[simp] theorem State.setA_latch (v : Byte) : (s.latch q).setA v = (s.setA v).latch q := rfl
@[simp] theorem State.setX_latch (v : Byte) : (s.latch q).setX v = (s.setX v).latch q := rfl
@[simp] theorem State.setY_latch (v : Byte) : (s.latch q).setY v = (s.setY v).latch q := rfl
@[simp] theorem State.setPc_latch (v : Word) : (s.latch q).setPc v = (s.setPc v).latch q := rfl
@[simp] theorem State.setZN_latch (r : Byte) : (s.latch q).setZN r = (s.setZN r).latch q := rfl
@[simp] theorem State.compare_latch (r m : Byte) : (s.latch q).compare r m = (s.compare r m).latch q := rfl
@[simp] theorem State.bitTest_latch (m : Byte) : (s.latch q).bitTest m = (s.bitTest m).latch q := rfl
@[simp] theorem State.shiftFlags_latch (r : ShiftResult) : (s.latch q).shiftFlags r = (s.shiftFlags r).latch q := rfl
@[simp] theorem State.afterRead_latch (a : Word) : (s.latch q).afterRead a = (s.afterRead a).latch q := rfl
@[simp] theorem State.memWrite_latch (a : Word) (v : Byte) : (s.latch q).memWrite a v = (s.memWrite a v).latch q := rfl
@[simp] theorem State.push16_latch (w : Word) : (s.latch q).push16 w = (s.push16 w).latch q := rfl
@[simp] theorem State.openHook_latch (t : Word) (p : Option Word) : (s.latch q).openHook t p = (s.openHook t p).latch q := rfl

@[simp] theorem State.addWithCarry_latch (m : Byte) : (s.latch q).addWithCarry m = (s.addWithCarry m).latch q := by
  have hopen : (s.latch q).decimalIsOpen m = s.decimalIsOpen m := rfl
  unfold State.addWithCarry
  rw [State.latch_flag, hopen]
  split_ifs <;> rfl

@[simp] theorem State.subWithBorrow_latch (m : Byte) : (s.latch q).subWithBorrow m = (s.subWithBorrow m).latch q := by
  have hopen : (s.latch q).decimalIsOpen m = s.decimalIsOpen m := rfl
  unfold State.subWithBorrow
  rw [State.latch_flag, hopen]
  split_ifs <;> rfl

@[simp] theorem State.trapTransfer_latch (t : Word) : (s.latch q).trapTransfer t = (s.trapTransfer t).latch q := by
  unfold State.trapTransfer
  rw [State.latch_params]
  split_ifs <;> rfl

/-! ### Operands -/

/-- What Resolve leaves in the latches and `debt`. -/
def State.resolvedLatch (o : Operand) : BoundaryDraw :=
  { opcode := q.opcode, ea := (s.latch q).effective o, ra := (s.latch q).offsetLatch o, debt := q.debt }

@[simp] theorem State.resolve_latch (o : Operand) : (s.latch q).resolve o = (s.resolve o).latch (s.resolvedLatch q o) := by
  cases o <;> rfl

/-- An operand with an effective address gets it from other data than the latches. -/
@[simp] theorem State.resolvedLatch_ea {o : Operand} (hi : o.mode ≠ .imp) (ha : o.mode ≠ .acc) :
    (s.resolvedLatch q o).ea = s.effective o := by
  cases o
  case imp => exact absurd rfl hi
  case acc => exact absurd rfl ha
  all_goals rfl

/-- So does the byte that a Load gives; A and an immediate byte are no latches either. -/
theorem State.resolve_load_latch {o : Operand} (hi : o.mode ≠ .imp) :
    ((s.resolve o).latch (s.resolvedLatch q o)).load o =
      (((s.resolve o).load o).1, ((s.resolve o).load o).2.latch (s.resolvedLatch q o)) := by
  cases o
  case imp => exact absurd rfl hi
  all_goals rfl

/-- A store goes to A, or to the address that Resolve has latched. -/
theorem State.store_latch {o : Operand} (v : Byte) {t : State} (hi : o.mode ≠ .imp) (ht : t.ea = s.effective o) :
    (t.latch (s.resolvedLatch q o)).store o v = (t.store o v).latch (s.resolvedLatch q o) := by
  cases o
  case imp => exact absurd rfl hi
  case acc => rfl
  all_goals
    simp only [State.store, State.latch_ea, ht]
    rfl

theorem branchOn_latch (c : Bool) {o : Operand} (hi : o.mode ≠ .imp) (ha : o.mode ≠ .acc) :
    branchOn c o (s.latch q) = (branchOn c o s).latch (s.resolvedLatch q o) := by
  cases c <;> simp [branchOn, hi, ha]

theorem jsrOp_latch {o : Operand} (hi : o.mode ≠ .imp) (ha : o.mode ≠ .acc) :
    jsrOp o (s.latch q) = (jsrOp o s).latch (s.resolvedLatch q o) := by
  simp only [jsrOp, State.resolve_latch, State.latch_ea, State.latch_pc, State.latch_params,
    State.resolvedLatch_ea q s hi ha, State.resolve_ea]
  split_ifs <;> simp

/-! ### Operations -/

/-- The identities with an implied operand (30_encoding.md R104). -/
def impliedMnemonics : List Mnemonic :=
  [.tax, .tay, .txa, .tya, .tsx, .txs, .inx, .iny, .dex, .dey, .rts, .pha, .pla, .php, .plp, .clc, .sec, .cli, .sei, .cld,
    .sed, .clv, .nop, .brk, .rti, .jam]

/-- An implied operand and the accumulator, which have no effective address, stand with the identities that need none. -/
theorem mnemonic_of_mode (i : Instr) :
    (i.operand.mode = .imp → i.mnemonic ∈ impliedMnemonics) ∧
      (i.operand.mode = .acc → i.mnemonic ∈ [.asl, .lsr, .rol, .ror]) :=
  forall_instr (P := fun m k _ => (k = .imp → m ∈ impliedMnemonics) ∧ (k = .acc → m ∈ [.asl, .lsr, .rol, .ror]))
    (fun n => by fin_cases n <;> decide) i

/-- No operation looks at the latches or at `debt`, on an operand that its identity can have. -/
theorem settle_opOf_latch (m : Mnemonic) (o : Operand) (hi : o.mode = .imp → m ∈ impliedMnemonics)
    (ha : o.mode = .acc → m ∈ [.asl, .lsr, .rol, .ror]) : (opOf m o (s.latch q)).settle = (opOf m o s).settle := by
  cases m
  -- The operand is loaded.
  case lda | ldx | ldy | adc | sbc | and | ora | eor | cmp | cpx | cpy | bit =>
    replace hi := mt hi (by decide)
    simp [opOf, ldaOp, ldxOp, ldyOp, adcOp, sbcOp, andOp, oraOp, eorOp, cmpOp, cpxOp, cpyOp, bitOp,
      State.resolve_load_latch, hi]
  -- The operand is loaded and stored.
  case asl | lsr | rol | ror =>
    replace hi := mt hi (by decide)
    simp [opOf, aslOp, lsrOp, rolOp, rorOp, State.resolve_load_latch, State.store_latch, hi]
  -- Memory is accessed at the effective address.
  case sta | stx | sty | sax | lax | inc | dec | slo | rla | sre | rra | dcp | isb =>
    replace hi := mt hi (by decide)
    replace ha := mt ha (by decide)
    simp [opOf, staOp, stxOp, styOp, saxOp, laxOp, incOp, decOp, sloOp, rlaOp, sreOp, rraOp, dcpOp, isbOp, hi, ha]
  -- Control goes to the effective address.
  case bpl | bmi | bvc | bvs | bcc | bcs | bne | beq =>
    replace hi := mt hi (by decide)
    replace ha := mt ha (by decide)
    simp [opOf, bplOp, bmiOp, bvcOp, bvsOp, bccOp, bcsOp, bneOp, beqOp, branchOn_latch, hi, ha]
  case jmp =>
    replace hi := mt hi (by decide)
    replace ha := mt ha (by decide)
    simp [opOf, jmpOp, hi, ha]
  case jsr =>
    replace hi := mt hi (by decide)
    replace ha := mt ha (by decide)
    simp [opOf, jsrOp_latch, hi, ha]
  case nop => cases o <;> rfl
  -- The operand is implied, or the byte is refused.
  all_goals rfl

theorem settled_exec_latch (i : Instr) : settled (exec i (s.latch q)) = settled (exec i s) := by
  obtain ⟨hi, ha⟩ := mnemonic_of_mode i
  rw [exec_eq, exec_eq, State.latch_params]
  split_ifs
  · exact congrArg Host.Outcome.next (settle_opOf_latch q s i.mnemonic i.operand hi ha)
  · rfl

/-! ### The step -/

theorem State.afterReads_latch (l : List Word) : (s.latch q).afterReads l = (s.afterReads l).latch q := by
  induction l generalizing s with
  | nil => rfl
  | cons a l ih => exact ih (s.afterRead a)

theorem State.afterFetch_latch (n : Nat) :
    (s.latch q).afterFetch n = (s.afterFetch n).latch { q with opcode := s.peekValue s.pc } := by
  have haddr : (s.latch q).fetchAddresses n = s.fetchAddresses n := rfl
  rw [State.afterFetch, haddr, State.afterReads_latch]
  rfl

theorem coreStep_latch : coreStep (s.latch q) = coreStep s := by
  have hinstr : (s.latch q).instrAtPc = s.instrAtPc := rfl
  rw [coreStep_eq, coreStep_eq, hinstr, State.afterFetch_latch, settled_exec_latch, State.latch_peekValue, State.latch_pc]

end

/-- Settles O8: the core's step is the same whatever the latches and `debt` are. -/
theorem latchesAreUnobservable : Obligations.LatchesAreUnobservable := by
  intro s opcode ra ea debt hs
  rw [step_idle hs, step_idle (s := { s with opcode := opcode, ea := ea, ra := ra, debt := debt }) hs]
  exact coreStep_latch ⟨opcode, ea, ra, debt⟩ s

end Sys2Proof.Machine

namespace Sys2Proof.Machine

/-! ## Memory and the access history (20_memory.md R80) -/

/-- Coherence looks at memory, the history and the memory environment only. -/
theorem State.Coherent.of_eq {s t : State} (hs : s.Coherent) (hm : t.mem = s.mem) (hh : t.history = s.history)
    (hq : t.params.memEnv = s.params.memEnv) : t.Coherent := by
  simpa only [State.Coherent, State.envOwns, hm, hh, hq] using hs

/-- A read of plain RAM in a coherent state gives the value of the latest write. -/
theorem State.Coherent.peekValue_eq {s : State} (hs : s.Coherent) {a : Word} {v : Byte} (ha : s.envOwns a = false)
    (hv : lastWrite a s.history = some v) : s.peekValue a = v :=
  have ⟨_, _, hmem⟩ := hs
  (State.peekValue_ram ha).trans (hmem a v ha hv)

/-- After a write, memory holds the latest write of every address of plain RAM: the one just made, or the one before. -/
theorem State.Coherent.read_pokeMem {s : State} (hs : s.Coherent) {a b : Word} {v w : Byte} (hb : s.envOwns b = false)
    (hw : (if a = b then some v else lastWrite b s.history) = some w) : (s.pokeMem a v).read b = w := by
  obtain ⟨hwf, -, hmem⟩ := hs
  rw [State.read_pokeMem a b v hwf]
  split_ifs at hw with hab
  · subst hab
    rw [if_pos ⟨rfl, hb⟩]
    exact Option.some.inj hw
  · rw [if_neg fun h => hab h.1.symm]
    exact hmem b w hb hw

/-- Every primitive update keeps coherence, so all that is made of them does. -/
theorem Evolves.coherent {s t : State} (h : Evolves s t) (hs : s.Coherent) : t.Coherent := by
  induction h with
  | data _ hm hh hq _ => exact hs.of_eq hm hh (congrArg Params.memEnv hq)
  | callbacks _ | writeP _ _ | setpatch _ _ => exact hs.of_eq rfl rfl rfl
  | read a s | hostRead a s =>
    have ⟨hwf, hreads, hmem⟩ := hs
    exact ⟨hwf, ⟨fun ha _ hv => hs.peekValue_eq ha hv, hreads⟩, hmem⟩
  | write a v s | hostWrite a v s =>
    have ⟨hwf, hreads, _⟩ := hs
    exact ⟨State.wf_pokeMem a v hwf, hreads, fun _ _ hb hw => hs.read_pokeMem hb hw⟩
  | hook _ => exact hs
  | trans _ _ ih ih' => exact ih' (ih hs)

/-- Settles O6: a step is made of primitive updates, and each of them keeps coherence. -/
theorem stepKeepsCoherence : Obligations.StepKeepsCoherence :=
  fun _ _ hs h => (Evolves.step h).coherent hs

/-- Settles O5: the history after reset holds two reads and no write. -/
theorem resetIsCoherent : Obligations.ResetIsCoherent :=
  ⟨rfl, ⟨fun _ _ h => (nomatch h), fun _ _ h => (nomatch h), trivial⟩, fun _ _ _ h => (nomatch h)⟩

end Sys2Proof.Machine

namespace Sys2Proof.Machine

/-! ## Which operations write memory (20_memory.md R75, R76) -/

@[simp] theorem State.addWithCarry_mem (m : Byte) (s : State) : (s.addWithCarry m).mem = s.mem :=
  (s.addWithCarry_frame m).2.1

@[simp] theorem State.subWithBorrow_mem (m : Byte) (s : State) : (s.subWithBorrow m).mem = s.mem :=
  (s.subWithBorrow_frame m).2.1

@[simp] theorem State.pull_mem (s : State) : s.pull.2.mem = s.mem := rfl

@[simp] theorem State.pull16_mem (s : State) : s.pull16.2.mem = s.mem := rfl

@[simp] theorem State.returnFromHandler_mem (s : State) : s.returnFromHandler.mem = s.mem := by
  rw [State.returnFromHandler_eq, State.afterReads_mem]

@[simp] theorem State.trapTransfer_mem (t : Word) (s : State) : (s.trapTransfer t).mem = s.mem := by
  unfold State.trapTransfer
  split_ifs <;> rfl

@[simp] theorem branchOn_mem (c : Bool) (o : Operand) (s : State) : (branchOn c o s).mem = s.mem := by
  cases c <;> simp [branchOn]

/-- The identities that write memory whatever their mode: stores, read-modify-writes that are no shift, pushes, BRK and JSR. -/
def memoryWriters : List Mnemonic :=
  [.sta, .stx, .sty, .sax, .inc, .dec, .slo, .rla, .sre, .rra, .dcp, .isb, .pha, .php, .brk, .jsr]

theorem eq_acc_of_mode {o : Operand} (h : o.mode = .acc) : o = .acc := by
  cases o
  case acc => rfl
  all_goals cases h

/-- An operation leaves memory alone unless its identity writes it, or it is a shift of a byte of memory. -/
theorem opOf_mem {m : Mnemonic} {o : Operand} (s : State) (hm : m ∉ memoryWriters)
    (hacc : m ∈ [.asl, .lsr, .rol, .ror] → o.mode = .acc) : (opOf m o s).mem = s.mem := by
  cases m
  case sta | stx | sty | sax | inc | dec | slo | rla | sre | rra | dcp | isb | pha | php | brk | jsr =>
    exact absurd (by decide) hm
  -- The operand is loaded.
  case lda | ldx | ldy | lax | adc | sbc | and | ora | eor | cmp | cpx | cpy | bit =>
    simp [opOf, ldaOp, ldxOp, ldyOp, laxOp, adcOp, sbcOp, andOp, oraOp, eorOp, cmpOp, cpxOp, cpyOp, bitOp]
  -- The accumulator is shifted.
  case asl | lsr | rol | ror =>
    obtain rfl := eq_acc_of_mode (hacc (by decide))
    simp [opOf, aslOp, lsrOp, rolOp, rorOp, isAcc]
  case bpl | bmi | bvc | bvs | bcc | bcs | bne | beq => exact branchOn_mem _ o s
  case jmp => simp [opOf, jmpOp]
  case rti => exact s.returnFromHandler_mem
  case nop => cases o <;> simp [opOf, nopOp]
  case rts | pla | plp => simp [opOf, rtsOp, plaOp, plpOp]
  -- The operand is implied, or the byte is refused.
  all_goals rfl

/-- Settles O55: exec is the operation of the instruction's identity. -/
theorem memoryHasItsWriters : Obligations.MemoryHasItsWriters := by
  intro i s t h hm hacc
  obtain ⟨-, rfl⟩ := exec_next h
  exact opOf_mem s hm hacc

end Sys2Proof.Machine

namespace Sys2Proof.Machine

/-! ## One access at an address of plain RAM, and at one that `MEM_ENV` answers (20_memory.md R71, R77) -/

/-- A read of plain RAM gives the byte of memory and uses no answer. -/
theorem State.peek_ram {s : State} {a : Word} (ha : s.envOwns a = false) :
    s.peekValue a = s.mem.read a ∧ s.answersLeft a = s.answers ∧ s.drawsLeft a = s.draws :=
  ⟨State.peekValue_ram ha, by simp [State.answersLeft, ha], by simp [State.drawsLeft, ha]⟩

/-- A read that the environment answers from its script takes the script's head. -/
theorem State.peek_scripted {s : State} {a : Word} {b : Byte} {r : List Byte} (ha : s.envOwns a = true)
    (hn : s.answers = b :: r) : s.peekValue a = b ∧ s.answersLeft a = r ∧ s.drawsLeft a = s.draws := by
  simp [State.peekValue, State.answersLeft, State.drawsLeft, ha, hn]

/-- A read that the environment answers with its script used up takes a free value. -/
theorem State.peek_free {s : State} {a : Word} (ha : s.envOwns a = true) (hn : s.answers = []) :
    s.peekValue a = Config.memDraw s.draws ∧ s.answersLeft a = [] ∧ s.drawsLeft a = s.draws + 1 := by
  simp [State.peekValue, State.answersLeft, State.drawsLeft, ha, hn]

/-- A write that the environment takes changes no byte of memory. -/
theorem State.pokeMem_owned {s : State} {a : Word} (v : Byte) (ha : s.envOwns a = true) : s.pokeMem a v = s.mem :=
  if_pos ha

/-- A host access that is due, from the state before it: the call used up is all that the step's state differs in. -/
theorem step_hostRead {s u : State} {a : Word} (h : Due (.peek a) s u) :
    step s = .next { u with
      answers := s.answersLeft a
      draws := s.drawsLeft a
      history := .hostRead a (s.peekValue a) :: s.history } := by
  obtain ⟨is, os, rfl⟩ := h.rest
  exact step_due h

theorem step_hostWrite {s u : State} {a : Word} {v : Byte} (h : Due (.poke a v) s u) :
    step s = .next { u with mem := s.pokeMem a v, history := .hostWrite a v :: s.history } := by
  obtain ⟨is, os, rfl⟩ := h.rest
  exact step_due h

/-- Settles O48: the step makes the one access that is due, and the address's owner says what it does. -/
theorem hostAccessesTakeTheirPlace : Obligations.HostAccessesTakeTheirPlace := by
  intro s u a v
  refine ⟨fun h => ?_, fun h hwf => ?_⟩
  · obtain ⟨hanswers, hdraws⟩ : u.answers = s.answers ∧ u.draws = s.draws := by
      obtain ⟨is, os, rfl⟩ := h.rest
      exact ⟨rfl, rfl⟩
    rw [step_hostRead h]
    refine ⟨fun ha => ?_, fun ha b r hn => ?_, fun ha hn => ?_⟩
    · obtain ⟨hv, hl, hd⟩ := State.peek_ram ha
      rw [hv, hl, hd, ← hanswers, ← hdraws]
    · obtain ⟨hv, hl, hd⟩ := State.peek_scripted ha hn
      rw [hv, hl, hd, ← hdraws]
    · obtain ⟨hv, hl, hd⟩ := State.peek_free ha hn
      rw [hv, hl, hd, ← hn, ← hanswers]
  · exact ⟨_, step_hostWrite h, storesAt_poke hwf rfl rfl rfl, State.pokeMem_owned v, rfl⟩

/-- Settles O59: LDA abs reads and STA abs writes its address, and the address's owner says what the access does. -/
theorem memoryEnvironmentAnswersItsAddresses : Obligations.MemoryEnvironmentAnswersItsAddresses := by
  refine ⟨rfl, fun s a h => by simp [State.envOwns, h], fun s o ho ha => State.operandValue_ram o s ho ha, fun s w hw => ?_⟩
  have hexec : exec (.ldaAbs w) s = .next ((((s.setEa w).afterRead w).setA (s.peekValue w)).setZN (s.peekValue w)) := rfl
  refine ⟨fun b r hn => ?_, fun hn => ?_, _, rfl, State.pokeMem_owned s.a hw, rfl, rfl, rfl, rfl⟩
  · obtain ⟨hv, hl, hd⟩ := State.peek_scripted hw hn
    rw [hv] at hexec
    refine ⟨_, hexec, rfl, znOf_of (by simp) (by simp), hl, hd, rfl, ?_, rfl⟩
    simp [hv]
  · obtain ⟨hv, hl, hd⟩ := State.peek_free hw hn
    exact ⟨_, hexec, hv, znOf_of (by simp) (by simp), hl, hd, rfl, rfl, rfl⟩

end Sys2Proof.Machine

namespace Sys2Proof.Machine

/-! ## A store and the fetch after it (20_memory.md R83, 70_reset_and_hazards.md R474) -/

/-- The byte that a store instruction writes (42_load_store_transfer.md R203 to R205, 47_undocumented.md R374). -/
def State.storedByte (m : Mnemonic) (s : State) : Byte :=
  if m = .sta then s.a else if m = .stx then s.x else if m = .sty then s.y else s.a &&& s.x

/-- A store instruction resolves its operand and writes that byte at the effective address. -/
theorem opOf_store {m : Mnemonic} (hm : m ∈ [.sta, .stx, .sty, .sax]) (o : Operand) (s : State) :
    opOf m o s = (s.resolve o).memWrite (s.effective o) (s.storedByte m) := by
  cases m
  case sta | stx | sty | sax =>
    simp [opOf, staOp, stxOp, styOp, saxOp, State.storedByte]
  all_goals exact absurd hm (by decide)

/-- Every store instruction is of a tier that always executes. -/
theorem tier_of_store (i : Instr) : i.mnemonic ∈ [.sta, .stx, .sty, .sax] → i.tier = .t1 ∨ i.tier = .t2 :=
  forall_instr (P := fun m _ t => m ∈ [.sta, .stx, .sty, .sax] → t = .t1 ∨ t = .t2) (fun n => by fin_cases n <;> decide) i

/-- The opcode that the fetch decodes is what a read of PC gives. -/
theorem State.opcode_fetch (s : State) : s.fetch.1.opcode = s.peekValue s.pc := by
  rw [State.fetch_eq]
  exact opcode_instrOf _ _ _

/-- Settles O16: the next fetch reads the byte that the store has left at its address. -/
theorem storeIsSeenByTheNextFetch : Obligations.StoreIsSeenByTheNextFetch := by
  intro i s hm hwf hea hram
  refine ⟨_, exec_admitted s (tier_of_store i hm), ?_⟩
  rw [opOf_store hm, hea, State.opcode_fetch, State.peekValue_ram (by simpa using hram)]
  simp only [State.memWrite_pc, State.memWrite_mem, State.resolve_pc]
  rw [State.read_pokeMem _ _ _ (by simpa using hwf), if_pos ⟨rfl, by simpa using hram⟩]
  rfl

end Sys2Proof.Machine

namespace Sys2Proof.Machine

/-! ## The decoder against the encoder (30_encoding.md R100 to R104, R109) -/

@[simp] theorem length_bytes (o : Operand) : o.bytes.length = o.mode.operandBytes := by
  cases o <;> rfl

/-- An instruction has the operand bytes that its opcode byte asks for. -/
theorem length_bytes_eq_operandCount (i : Instr) : i.operand.bytes.length = operandCount i.opcode := by
  obtain ⟨-, hmode, -⟩ := of_opcode (i := i) rfl
  rw [length_bytes, hmode, operandCount]

theorem length_encode (i : Instr) : (encode i).length = i.length := by
  simp [encode, Instr.length, Mode.length]

/-- What the decoder does with an opcode byte, its operand bytes and any bytes after them. -/
theorem decode_cell {op : Byte} {ops : List Byte} (h : ops.length = operandCount op) (rest : List Byte) :
    decode (op :: ops ++ rest) = .ok (instrOf op (ops.getD 0 0) (ops.getD 1 0)) rest := by
  have hle := operandCount_le op
  match ops with
  | [] | [_] | [_, _] => simp [decode.eq_def, ← h]
  | _ :: _ :: _ :: _ => simp [← h] at hle

/-- The encoder gives back the bytes that a cell is made of. -/
theorem encode_cell {op : Byte} {ops : List Byte} (h : ops.length = operandCount op) :
    encode (instrOf op (ops.getD 0 0) (ops.getD 1 0)) = op :: ops := by
  have hle := operandCount_le op
  rw [encode, opcode_instrOf, bytes_instrOf, ← h]
  match ops with
  | [] | [_] | [_, _] => rfl
  | _ :: _ :: _ :: _ => simp [← h] at hle

/-- Settles O9: the opcode map rebuilds an instruction from its own bytes. -/
theorem decodeOfEncodeIsIdentity : Obligations.DecodeOfEncodeIsIdentity := by
  refine fun i rest => ⟨?_, length_encode i⟩
  calc decode (encode i ++ rest)
      = .ok (instrOf i.opcode (i.operand.bytes.getD 0 0) (i.operand.bytes.getD 1 0)) rest :=
        decode_cell (length_bytes_eq_operandCount i) rest
    _ = .ok i rest := congrArg (Decoded.ok · rest) (Laws.rebuild i)

/-- The decoder reads three bytes as the cell of the first, and the encoder gives back the bytes consumed. -/
theorem decode_three (op b1 b2 : Byte) : ∃ x y rest,
    decode [op, b1, b2] = .ok (instrOf op x y) rest ∧ encode (instrOf op x y) ++ rest = [op, b1, b2] := by
  have hops : ([b1, b2].take (operandCount op)).length = operandCount op := by simpa using operandCount_le op
  have hsplit : op :: [b1, b2].take (operandCount op) ++ [b1, b2].drop (operandCount op) = [op, b1, b2] := by simp
  refine ⟨_, _, _, hsplit ▸ decode_cell hops _, ?_⟩
  rw [encode_cell hops, hsplit]

/-- Settles O10: what the decoder answers is a cell of the first byte, whatever the operand bytes. -/
theorem encodeOfDecodeIsIdentity : Obligations.EncodeOfDecodeIsIdentity := by
  intro op b1 b2 c1 c2
  obtain ⟨x, y, rest, hdecode, hencode⟩ := decode_three op b1 b2
  obtain ⟨x', y', rest', hdecode', -⟩ := decode_three op c1 c2
  refine ⟨_, _, rest, rest', hdecode, hdecode', opcode_instrOf op x y, hencode, ?_, ?_⟩
  · rw [mnemonic_instrOf op x y, mnemonic_instrOf op x' y']
  · rw [mode_instrOf op x y, mode_instrOf op x' y']

/-- Settles O11: each word is an opcode byte with its operand bytes, which the opcode map reads. -/
theorem wordsDecodeAsTheSpecEncodesThem : Obligations.WordsDecodeAsTheSpecEncodesThem := by
  refine ⟨?_, ?_, ?_, ?_, ?_, ?_, ?_, ?_, ?_, ?_, ?_⟩ <;> rfl

/-! ## Tiers and the reverse lookup (30_encoding.md R106, R116) -/

/-- As `forall_instr`, for a fact that speaks of the opcode byte too. -/
theorem forall_cell {P : Byte → Mnemonic → Mode → Tier → Prop}
    (h : ∀ n : Fin 256, P (BitVec.ofFin n) (instrOf (BitVec.ofFin n) 0 0).mnemonic
      (instrOf (BitVec.ofFin n) 0 0).operand.mode (instrOf (BitVec.ofFin n) 0 0).tier) (i : Instr) :
    P i.opcode i.mnemonic i.operand.mode i.tier := by
  obtain ⟨hmnem, hmode, htier⟩ := of_opcode (i := i) rfl
  rw [hmnem, hmode, htier]
  exact h i.opcode.toFin

/-- The bytes that R106 lists for a tier. T1 has no list. -/
def listedBytes : Tier → List Byte
  | .t1 => []
  | .t2 => bytesT2
  | .t3 => bytesT3
  | .t4 => bytesT4

/-- A listed byte is of its list's tier. -/
theorem tier_of_mem_listedBytes {i : Instr} {t : Tier} (hmem : i.opcode ∈ listedBytes t) : i.tier = t := by
  have hlist : (listedBytes t).all (fun op => (instrOf op 0 0).tier = t) := by cases t <;> rfl
  obtain ⟨-, -, htier⟩ := of_opcode (i := i) rfl
  simpa [htier] using List.all_eq_true.mp hlist _ hmem

/-- A byte of another tier than T1 stands in its tier's list. -/
theorem mem_listedBytes_of_tier (i : Instr) : i.tier = .t1 ∨ i.opcode ∈ listedBytes i.tier :=
  forall_cell (P := fun op _ _ t => t = .t1 ∨ op ∈ listedBytes t) (by decide +kernel) i

/-- For a tier that has a list, being of the tier and standing in the list are one. -/
theorem tier_eq_iff_mem_listedBytes (i : Instr) {t : Tier} (ht : t ≠ .t1) : i.tier = t ↔ i.opcode ∈ listedBytes t := by
  refine ⟨?_, tier_of_mem_listedBytes⟩
  rintro rfl
  exact (mem_listedBytes_of_tier i).resolve_left ht

/-- Settles O12: an instruction is of a listed tier exactly if its byte is listed, and T1 is what remains. -/
theorem tiersFollowTheByteLists : Obligations.TiersFollowTheByteLists := by
  refine ⟨fun i => ?_, rfl, rfl, rfl⟩
  have h2 : i.tier = .t2 ↔ i.opcode ∈ bytesT2 := tier_eq_iff_mem_listedBytes i (t := .t2) (by decide)
  have h3 : i.tier = .t3 ↔ i.opcode ∈ bytesT3 := tier_eq_iff_mem_listedBytes i (t := .t3) (by decide)
  have h4 : i.tier = .t4 ↔ i.opcode ∈ bytesT4 := tier_eq_iff_mem_listedBytes i (t := .t4) (by decide)
  refine ⟨h2, h3, h4, ?_⟩
  rw [List.mem_append, List.mem_append, ← h2, ← h3, ← h4]
  cases i.tier <;> decide

/-- What a lookup gives is the byte of a T1 or T2 cell with the identity and mode asked for. -/
theorem cell_of_reverseLookup {m : Mnemonic} {k : Mode} {op : Byte} (h : reverseLookup m k = some op) :
    (instrOf op 0 0).mnemonic = m ∧ (instrOf op 0 0).operand.mode = k ∧
      ((instrOf op 0 0).tier = .t1 ∨ (instrOf op 0 0).tier = .t2) := by
  obtain ⟨n, hfind, rfl⟩ := Option.map_eq_some_iff.mp h
  simpa [and_assoc] using List.find?_some hfind

/-- The lookup finds every T1 and T2 instruction: in none of the 256 searches does an earlier byte of these tiers share
identity and mode. -/
theorem reverseLookup_of_tier (i : Instr) :
    i.tier = .t1 ∨ i.tier = .t2 → reverseLookup i.mnemonic i.operand.mode = some i.opcode :=
  forall_cell (P := fun op m k t => t = .t1 ∨ t = .t2 → reverseLookup m k = some op) (by decide +kernel) i

/-- Settles O13: the lookup searches the T1 and T2 cells only, and finds each of them. -/
theorem reverseLookupFindsTheTierOneByte : Obligations.ReverseLookupFindsTheTierOneByte := by
  refine ⟨reverseLookup_of_tier, fun m k op hlookup i hop => ?_, reverseLookup_of_tier .nop (.inl rfl),
    reverseLookup_of_tier (.sbcImm 0) (.inl rfl)⟩
  obtain ⟨hmnem, hmode, htier⟩ := of_opcode hop
  rw [hmnem, hmode, htier]
  exact cell_of_reverseLookup hlookup

end Sys2Proof.Machine

namespace Sys2Proof.Machine

/-! ## The fetch (40_addressing.md R140, R155) -/

theorem State.bytesAtPc_one (s : State) : s.bytesAtPc 1 = [s.peekValue s.pc] := by
  rw [State.bytesAtPc, State.fetchAddresses_one]
  rfl

theorem State.bytesAtPc_two (s : State) :
    s.bytesAtPc 2 = [s.peekValue s.pc, (s.afterRead s.pc).peekValue (s.pc + 1)] := by
  rw [State.bytesAtPc, State.fetchAddresses_two]
  rfl

theorem State.bytesAtPc_three (s : State) :
    s.bytesAtPc 3 = [s.peekValue s.pc, (s.afterRead s.pc).peekValue (s.pc + 1),
      ((s.afterRead s.pc).afterRead (s.pc + 1)).peekValue (s.pc + 2)] := by
  rw [State.bytesAtPc, State.fetchAddresses_three]
  rfl

/-- The bytes from PC on begin with the opcode byte. -/
theorem State.bytesAtPc_succ (n : Nat) (s : State) : ∃ bs, s.bytesAtPc (n + 1) = s.peekValue s.pc :: bs :=
  ⟨_, by simp [State.bytesAtPc, State.fetchAddresses, List.range_succ_eq_map, State.readValues]; rfl⟩

theorem length_eq_length_bytes (i : Instr) : i.length = i.operand.bytes.length + 1 := by
  rw [length_bytes]
  rfl

theorem length_eq_operandCount (i : Instr) : i.length = operandCount i.opcode + 1 := by
  rw [length_eq_length_bytes, length_bytes_eq_operandCount]

/-- The fetch leaves PC past the instruction that it answers. -/
theorem State.fetch_state (s : State) : s.fetch.2 = s.afterFetch s.fetch.1.length := by
  rw [length_eq_operandCount, State.opcode_fetch, State.fetch_eq]

/-- The fetched instruction is encoded by the bytes from PC on. -/
theorem State.encode_fetch (s : State) : encode s.fetch.1 = s.bytesAtPc s.fetch.1.length := by
  have hle := operandCount_le (s.peekValue s.pc)
  rw [length_eq_operandCount, encode, State.opcode_fetch, State.fetch_eq, State.instrAtPc, bytes_instrOf]
  interval_cases operandCount (s.peekValue s.pc)
  · exact s.bytesAtPc_one.symm
  · exact s.bytesAtPc_two.symm
  · exact s.bytesAtPc_three.symm

/-- What the decoder answers has the first byte as its opcode byte. -/
theorem opcode_of_decode {op : Byte} {bs rest : List Byte} {i : Instr} (h : decode (op :: bs) = .ok i rest) :
    i.opcode = op := by
  rw [decode.eq_def] at h
  simp only at h
  split at h <;> cases h
  all_goals exact opcode_instrOf op _ _

/-- The bytes from PC on decode to no other instruction than the fetched one. -/
theorem State.fetch_of_decode {s : State} {i : Instr} (h : decode (s.bytesAtPc i.length) = .ok i []) : s.fetch.1 = i := by
  have hop : i.opcode = s.fetch.1.opcode := by
    obtain ⟨bs, hbs⟩ := s.bytesAtPc_succ (operandCount i.opcode)
    rw [length_eq_operandCount, hbs] at h
    rw [State.opcode_fetch, opcode_of_decode h]
  rw [length_eq_operandCount, hop, ← length_eq_operandCount, ← State.encode_fetch] at h
  have hfetch := (decodeOfEncodeIsIdentity s.fetch.1 []).1
  rw [List.append_nil, h] at hfetch
  cases hfetch
  rfl

/-- Settles O14: the fetch answers the decoded instruction, and the core's step settles the outcome of its exec. -/
theorem stepRunsTheDecodedInstruction : Obligations.StepRunsTheDecodedInstruction := by
  intro s i hs hdecode
  have hstep : step s = settled (exec i (s.afterFetch i.length)) := by
    rw [step_idle hs, coreStep, State.fetch_state, State.fetch_of_decode hdecode]
  refine ⟨fun t ht => ⟨t.settle, ?_, rfl⟩, fun r hr => ?_⟩
  · rw [hstep, ht]
    rfl
  · rw [hstep, hr]
    rfl

end Sys2Proof.Machine

namespace Sys2Proof.Machine

/-! ## The effective address and the pointer reads in numbers (00_scope.md R11, R14, 40_addressing.md R144 to R153) -/

theorem toNat_zeroPage (z : Byte) : (zeroPage z).toNat = z.toNat :=
  BitVec.toNat_setWidth_of_le (by decide)

theorem zeroPage_eq_ofNat (z : Byte) : zeroPage z = BitVec.ofNat 16 z.toNat :=
  (BitVec.ofNat_toNat 16 z).symm

theorem word_eq_ofNat (h l : Byte) : word h l = BitVec.ofNat 16 (256 * h.toNat + l.toNat) := by
  rw [Nat.mul_comm, ← toNat_word, BitVec.ofNat_toNat, BitVec.setWidth_eq]

/-- The high byte of a pointer lies in the page of its low byte. -/
theorem wrapInPage_eq_word (w : Word) : wrapInPage w = word (hi8 w) (lo8 (w + 1)) := by
  apply BitVec.eq_of_getLsbD_eq
  intro j hj
  rw [getLsbD_word, getLsbD_hi8, getLsbD_lo8, wrapInPage, BitVec.getLsbD_or, BitVec.getLsbD_and, BitVec.getLsbD_and]
  interval_cases j <;> simp

theorem wrapInPage_eq_ofNat (w : Word) :
    wrapInPage w = BitVec.ofNat 16 (w.toNat / 256 * 256 + (w.toNat + 1) % 256) := by
  rw [wrapInPage_eq_word, word_eq_ofNat, toNat_hi8, toNat_lo8, Nat.mul_comm, BitVec.toNat_add,
    Nat.mod_mod_of_dvd _ (by decide)]
  rfl

theorem State.pointerReads_indx (z : Byte) (s : State) :
    s.pointerReads (.indx z) =
      some (BitVec.ofNat 16 ((z.toNat + s.x.toNat) % 256), BitVec.ofNat 16 ((z.toNat + s.x.toNat + 1) % 256)) := by
  have hhi : (z + s.x + 1).toNat = (z.toNat + s.x.toNat + 1) % 256 := by
    rw [BitVec.toNat_add, BitVec.toNat_add, Nat.mod_add_mod]
    rfl
  rw [State.pointerReads, zeroPage_eq_ofNat, zeroPage_eq_ofNat, hhi, BitVec.toNat_add]

theorem State.pointerReads_indy (z : Byte) (s : State) :
    s.pointerReads (.indy z) = some (BitVec.ofNat 16 z.toNat, BitVec.ofNat 16 ((z.toNat + 1) % 256)) := by
  rw [State.pointerReads, zeroPage_eq_ofNat, zeroPage_eq_ofNat, BitVec.toNat_add]
  rfl

theorem State.pointerReads_ind (w : Word) (s : State) :
    s.pointerReads (.ind w) =
      some (BitVec.ofNat 16 w.toNat, BitVec.ofNat 16 (w.toNat / 256 * 256 + (w.toNat + 1) % 256)) := by
  rw [State.pointerReads, wrapInPage_eq_ofNat, BitVec.ofNat_toNat, BitVec.setWidth_eq]

/-- The number that a mode's pointer reads make. -/
theorem State.toNat_pointer {o : Operand} {s : State} {lo hi : Word} (h : s.pointerReads o = some (lo, hi)) :
    (s.pointer o).toNat = 256 * ((s.afterRead lo).peekValue hi).toNat + (s.peekValue lo).toNat := by
  rw [Nat.mul_comm, ← toNat_word, State.pointer, h]
  rfl

theorem State.toNat_effective_zpx (z : Byte) (s : State) :
    (s.effective (.zpx z)).toNat = (z.toNat + s.x.toNat) % 256 := by
  rw [State.effective, toNat_zeroPage, BitVec.toNat_add]

theorem State.toNat_effective_zpy (z : Byte) (s : State) :
    (s.effective (.zpy z)).toNat = (z.toNat + s.y.toNat) % 256 := by
  rw [State.effective, toNat_zeroPage, BitVec.toNat_add]

theorem State.toNat_effective_rel (d : Byte) (s : State) :
    ((s.effective (.rel d)).toNat : Int) = (s.pc.toNat + d.toInt) % 65536 := by
  rw [State.effective, BitVec.toNat_add, sext16, BitVec.signExtend, BitVec.toNat_ofInt]
  omega

theorem State.toNat_effective_absx (w : Word) (s : State) :
    (s.effective (.absx w)).toNat = (w.toNat + s.x.toNat) % 65536 := by
  rw [State.effective, ← zeroPage, BitVec.toNat_add, toNat_zeroPage]

theorem State.toNat_effective_absy (w : Word) (s : State) :
    (s.effective (.absy w)).toNat = (w.toNat + s.y.toNat) % 65536 := by
  rw [State.effective, ← zeroPage, BitVec.toNat_add, toNat_zeroPage]

theorem State.toNat_effective_indy (z : Byte) (s : State) :
    (s.effective (.indy z)).toNat = ((s.pointer (.indy z)).toNat + s.y.toNat) % 65536 := by
  rw [State.effective, ← zeroPage, BitVec.toNat_add, toNat_zeroPage]

/-! ## Resolve after the fetch (40_addressing.md R141 to R155) -/

@[simp] theorem State.afterFetch_x (n : Nat) (s : State) : (s.afterFetch n).x = s.x := State.afterReads_x _ s
@[simp] theorem State.afterFetch_y (n : Nat) (s : State) : (s.afterFetch n).y = s.y := State.afterReads_y _ s
@[simp] theorem State.afterFetch_pc (n : Nat) (s : State) : (s.afterFetch n).pc = s.pc + BitVec.ofNat 16 n := rfl
@[simp] theorem State.afterFetch_ea (n : Nat) (s : State) : (s.afterFetch n).ea = s.ea := State.afterReads_ea _ s
@[simp] theorem State.afterFetch_history (n : Nat) (s : State) :
    (s.afterFetch n).history = s.readEvents (s.fetchAddresses n) ++ s.history := State.afterReads_history _ s

/-- The addresses of a mode's pointer reads, the low byte's first. -/
def State.pointerAddresses (o : Operand) (s : State) : List Word :=
  match s.pointerReads o with
  | some (lo, hi) => [lo, hi]
  | none => []

theorem State.pointerEvents_eq (o : Operand) (s : State) : s.pointerEvents o = s.readEvents (s.pointerAddresses o) := by
  cases o <;> rfl

theorem State.pointerAddresses_some {o : Operand} {s : State} {lo hi : Word} (h : s.pointerReads o = some (lo, hi)) :
    s.pointerAddresses o = [lo, hi] := by
  rw [State.pointerAddresses, h]

theorem State.readEvents_append (l l' : List Word) (s : State) :
    s.readEvents (l ++ l') = (s.afterReads l).readEvents l' ++ s.readEvents l := by
  induction l generalizing s with
  | nil => exact (List.append_nil _).symm
  | cons a l ih => simp only [List.cons_append, State.readEvents, State.afterReads, ih, List.append_assoc]

/-- PC and the opcode latch have no part in reads. -/
theorem State.readEvents_setPc_setOpcode (v : Word) (b : Byte) (l : List Word) (s : State) :
    ((s.setPc v).setOpcode b).readEvents l = s.readEvents l := by
  induction l generalizing s with
  | nil => rfl
  | cons a l ih =>
    simp only [State.readEvents, State.afterRead_setOpcode, State.afterRead_setPc, ih, State.setOpcode_peekValue,
      State.setPc_peekValue]

/-- The accesses of the fetch and Resolve: the instruction's bytes, then the pointer. -/
theorem State.history_resolve_afterFetch (o : Operand) (n : Nat) (s : State) :
    ((s.afterFetch n).resolve o).history =
      s.readEvents (s.fetchAddresses n ++ (s.afterFetch n).pointerAddresses o) ++ s.history := by
  have hreads (l : List Word) : (s.afterFetch n).readEvents l = (s.afterReads (s.fetchAddresses n)).readEvents l :=
    State.readEvents_setPc_setOpcode (s.pc + BitVec.ofNat 16 n) (s.peekValue s.pc) l (s.afterReads (s.fetchAddresses n))
  rw [State.resolve_history, State.afterFetch_history, State.pointerEvents_eq, hreads, State.readEvents_append,
    List.append_assoc]

/-- The accesses of an instruction with no operand byte. -/
theorem State.fetch_of_no_byte {s : State} {o : Operand} (ho : s.fetch.1.operand = o) (h : o.bytes = []) :
    (s.fetch.2.resolve o).history = s.readEvents ([s.pc] ++ s.fetch.2.pointerAddresses o) ++ s.history := by
  have hlen : s.fetch.1.length = 1 := by rw [length_eq_length_bytes, ho, h]; rfl
  rw [State.fetch_state, hlen, State.history_resolve_afterFetch, State.fetchAddresses_one]

/-- The fetch of an instruction with one operand byte, the byte after the opcode byte. -/
theorem State.fetch_of_byte {s : State} {o : Operand} {z : Byte} (ho : s.fetch.1.operand = o) (h : o.bytes = [z]) :
    z = (s.afterRead s.pc).peekValue (s.pc + 1) ∧ s.fetch.2 = s.afterFetch 2 ∧
      (s.fetch.2.resolve o).history = s.readEvents ([s.pc, s.pc + 1] ++ s.fetch.2.pointerAddresses o) ++ s.history := by
  have hlen : s.fetch.1.length = 2 := by rw [length_eq_length_bytes, ho, h]; rfl
  have hfetch : s.fetch.2 = s.afterFetch 2 := by rw [State.fetch_state, hlen]
  have hbytes := s.encode_fetch
  rw [hlen, State.bytesAtPc_two, encode, ho, h] at hbytes
  simp only [List.cons.injEq] at hbytes
  obtain ⟨-, hz, -⟩ := hbytes
  exact ⟨hz, hfetch, by rw [hfetch, State.history_resolve_afterFetch, State.fetchAddresses_two]⟩

/-- The fetch of an instruction with a word operand, the two bytes after the opcode byte, low byte first. -/
theorem State.fetch_of_word {s : State} {o : Operand} {w : Word} (ho : s.fetch.1.operand = o) (h : o.bytes = [lo8 w, hi8 w]) :
    w = word (((s.afterRead s.pc).afterRead (s.pc + 1)).peekValue (s.pc + 2)) ((s.afterRead s.pc).peekValue (s.pc + 1)) ∧
      (s.fetch.2.resolve o).history =
        s.readEvents ([s.pc, s.pc + 1, s.pc + 2] ++ s.fetch.2.pointerAddresses o) ++ s.history := by
  have hlen : s.fetch.1.length = 3 := by rw [length_eq_length_bytes, ho, h]; rfl
  have hbytes := s.encode_fetch
  rw [hlen, State.bytesAtPc_three, encode, ho, h] at hbytes
  simp only [List.cons.injEq] at hbytes
  obtain ⟨-, hlo, hhi, -⟩ := hbytes
  refine ⟨?_, ?_⟩
  · rw [← hlo, ← hhi, word_hi8_lo8]
  · rw [State.fetch_state, hlen, State.history_resolve_afterFetch, State.fetchAddresses_three]

/-- Settles O15, mode by mode: the fetch gives the operand bytes, and Resolve computes with them. -/
theorem everyModeResolves : Obligations.EveryModeResolves := by
  intro s i u
  have hu : u = s.afterFetch i.length := s.fetch_state
  have hpc : u.pc = s.pc + BitVec.ofNat 16 i.length := congrArg State.pc hu
  have hx : u.x = s.x := by rw [hu, State.afterFetch_x]
  have hy : u.y = s.y := by rw [hu, State.afterFetch_y]
  have hea : u.ea = s.ea := by rw [hu, State.afterFetch_ea]
  generalize ho : i.operand = o
  intro t b1 b2 w at16 pointer reads
  have hw : (word b2 b1).toNat = w := by rw [toNat_word, Nat.mul_comm]
  refine ⟨?_, ?_⟩
  · rw [State.resolve_pc, hpc, BitVec.toNat_add, BitVec.toNat_ofNat, Nat.add_mod_mod]
  cases o
  case imp | acc =>
    have hhist := State.fetch_of_no_byte ho rfl
    exact ⟨by rw [State.resolve_ea, State.effective, hea], hhist⟩
  case imm v =>
    obtain ⟨hv, htwo, hhist⟩ := State.fetch_of_byte ho rfl
    have hnext : u.pc = s.pc + 2 := congrArg State.pc htwo
    refine ⟨?_, hv, hhist⟩
    rw [State.resolve_ea, State.effective, hnext, add_sub_assoc]
    rfl
  case zp z =>
    obtain ⟨rfl, -, hhist⟩ := State.fetch_of_byte ho rfl
    exact ⟨toNat_zeroPage b1, hhist⟩
  case zpx z =>
    obtain ⟨rfl, -, hhist⟩ := State.fetch_of_byte ho rfl
    exact ⟨by rw [State.resolve_ea, State.toNat_effective_zpx, hx], hhist⟩
  case zpy z =>
    obtain ⟨rfl, -, hhist⟩ := State.fetch_of_byte ho rfl
    exact ⟨by rw [State.resolve_ea, State.toNat_effective_zpy, hy], hhist⟩
  case rel d =>
    obtain ⟨rfl, htwo, hhist⟩ := State.fetch_of_byte ho rfl
    have hnext : u.pc = s.pc + 2 := congrArg State.pc htwo
    have hnum : u.pc.toNat = (s.pc.toNat + 2) % 65536 := congrArg BitVec.toNat hnext
    refine ⟨?_, rfl, hhist⟩
    rw [State.resolve_ea, State.toNat_effective_rel, hnum]
    push_cast
    exact Int.emod_add_emod _ _ _
  case abs a =>
    obtain ⟨rfl, hhist⟩ := State.fetch_of_word ho rfl
    exact ⟨hw, hhist⟩
  case absx a =>
    obtain ⟨rfl, hhist⟩ := State.fetch_of_word ho rfl
    exact ⟨by rw [State.resolve_ea, State.toNat_effective_absx, hw, hx], hhist⟩
  case absy a =>
    obtain ⟨rfl, hhist⟩ := State.fetch_of_word ho rfl
    exact ⟨by rw [State.resolve_ea, State.toNat_effective_absy, hw, hy], hhist⟩
  case indx z =>
    obtain ⟨rfl, -, hhist⟩ := State.fetch_of_byte ho rfl
    have hreads := hx ▸ u.pointerReads_indx b1
    rw [State.pointerAddresses_some hreads] at hhist
    exact ⟨by rw [State.resolve_ea, State.effective, State.toNat_pointer hreads], hhist⟩
  case indy z =>
    obtain ⟨rfl, -, hhist⟩ := State.fetch_of_byte ho rfl
    have hreads := u.pointerReads_indy b1
    rw [State.pointerAddresses_some hreads] at hhist
    refine ⟨?_, hhist⟩
    rw [State.resolve_ea, State.toNat_effective_indy, State.toNat_pointer hreads, hy]
  case ind a =>
    obtain ⟨rfl, hhist⟩ := State.fetch_of_word ho rfl
    have hreads := hw ▸ u.pointerReads_ind (word b2 b1)
    rw [State.pointerAddresses_some hreads] at hhist
    exact ⟨by rw [State.resolve_ea, State.effective, State.toNat_pointer hreads], hhist⟩

end Sys2Proof.Machine

namespace Sys2Proof.Machine

/-! ## ADC and SBC in numbers: decimal digits, and V as signed overflow (41_alu.md R171 to R176, R185) -/

/-! ### Decimal numbers -/

/-- On a sum of two digits and a carry, adding 6 above 9 and keeping four bits is reduction mod 10. -/
theorem digit_of_add_six {d : Nat} (h : d ≤ 19) : (if 9 < d then d + 6 else d) % 16 = d % 10 := by
  split <;> omega

/-- On a difference of two digits and a borrow, taking 6 off below zero and keeping four bits is reduction mod 10. -/
theorem digit_of_sub_six {d : Int} (hl : -10 ≤ d) (hu : d ≤ 9) : (if d < 0 then d - 6 else d) % 16 = d % 10 := by
  split <;> omega

/-- A decimal sum of digits is the sum of the two decimal numbers: the nibble sums carry at ten (41_alu.md R173). -/
theorem DecimalSum.decimalValue_eq {a m r : Byte} {c c' v' : Bool} (h : DecimalSum a m c r c' v') (ha : Digits a)
    (hm : Digits m) :
    Digits r ∧ decimalValue r = (decimalValue a + decimalValue m + c.toNat) % 100 ∧
      (c' = true ↔ 100 ≤ decimalValue a + decimalValue m + c.toNat) := by
  obtain ⟨lo, hi, hlo, hhi, hrlo, hrhi, hcarry, -⟩ := h
  obtain ⟨hal, hah⟩ := ha
  obtain ⟨hml, hmh⟩ := hm
  have hc : c.toNat ≤ 1 := Bool.toNat_le c
  have hripple : (if 9 < lo then 1 else 0) = lo / 10 := by split <;> omega
  rw [hripple] at hhi
  rw [digit_of_add_six (by omega)] at hrlo hrhi
  have hsum : decimalValue a + decimalValue m + c.toNat = 10 * hi + lo % 10 := by unfold decimalValue; omega
  rw [hsum, hcarry, decimalValue, Digits, hrlo, hrhi]
  omega

/-- A decimal difference of digits is the difference of the two decimal numbers: the nibble differences borrow ten
(41_alu.md R174). -/
theorem DecimalDifference.decimalValue_eq {a m r : Byte} {c c' v' : Bool} (h : DecimalDifference a m c r c' v')
    (ha : Digits a) (hm : Digits m) :
    Digits r ∧ (decimalValue r : Int) = (decimalValue a - decimalValue m - (1 - c.toNat)) % 100 ∧
      (c' = true ↔ (0 : Int) ≤ decimalValue a - decimalValue m - (1 - c.toNat)) := by
  obtain ⟨lo, hi, hlo, hhi, hrlo, hrhi, hcarry, -⟩ := h
  obtain ⟨hal, hah⟩ := ha
  obtain ⟨hml, hmh⟩ := hm
  have hc : c.toNat ≤ 1 := Bool.toNat_le c
  have hripple : (if lo < 0 then 1 else 0) = -(lo / 10) := by split <;> omega
  rw [hripple] at hhi
  rw [digit_of_sub_six (by omega) (by omega)] at hrlo hrhi
  have hdiff : (decimalValue a : Int) - decimalValue m - (1 - c.toNat) = 10 * hi + lo % 10 := by
    unfold decimalValue; omega
  have hval : (decimalValue r : Int) = hi % 10 * 10 + lo % 10 := by unfold decimalValue; omega
  rw [hdiff, hval, hcarry]
  refine ⟨⟨?_, ?_⟩, ?_, ?_⟩ <;> omega

/-! ### Signed overflow -/

/-- Bit 7 of a byte is the sign of its two's-complement value. -/
theorem sign_eq_toInt_neg (b : Byte) : b.getLsbD 7 = decide (b.toInt < 0) := by
  rw [← BitVec.msb_eq_getLsbD_last (w := 8), BitVec.msb_eq_toInt]

theorem toInt_emod (b : Byte) : b.toInt % 256 = b.toNat := by
  have hb := b.isLt
  rw [BitVec.toInt_eq_toNat_cond]
  split <;> omega

theorem toInt_bounds (b : Byte) : -128 ≤ b.toInt ∧ b.toInt ≤ 127 :=
  ⟨BitVec.le_toInt b, Int.le_sub_one_of_lt BitVec.toInt_lt⟩

/-- The overflow formula of R171 says that the signed sum leaves a byte's range: else it is the signed result. -/
theorem BinarySum.overflow_iff {a m r : Byte} {c c' v' : Bool} (h : BinarySum a m c r c' v') :
    v' = true ↔ ¬(-128 ≤ a.toInt + m.toInt + c.toNat ∧ a.toInt + m.toInt + c.toNat ≤ 127) := by
  obtain ⟨hr, -, hv⟩ := h
  have hc : c.toNat ≤ 1 := Bool.toNat_le c
  have hcongr : r.toInt % 256 = (a.toInt + m.toInt + c.toNat) % 256 := by
    have ha := toInt_emod a
    have hm := toInt_emod m
    rw [toInt_emod r]
    omega
  have ha := toInt_bounds a
  have hm := toInt_bounds m
  have hres := toInt_bounds r
  rw [hv]
  simp only [sign_eq_toInt_neg, ne_eq, decide_eq_decide]
  omega

/-- The overflow formula of R172 says that the signed difference leaves a byte's range: else it is the signed result. -/
theorem BinaryDifference.overflow_iff {a m r : Byte} {c c' v' : Bool} (h : BinaryDifference a m c r c' v') :
    v' = true ↔ ¬(-128 ≤ a.toInt - m.toInt - (1 - c.toNat) ∧ a.toInt - m.toInt - (1 - c.toNat) ≤ 127) := by
  obtain ⟨hr, -, hv⟩ := h
  have hc : c.toNat ≤ 1 := Bool.toNat_le c
  have hcongr : r.toInt % 256 = (a.toInt - m.toInt - (1 - c.toNat)) % 256 := by
    have ha := toInt_emod a
    have hm := toInt_emod m
    rw [toInt_emod r]
    omega
  have ha := toInt_bounds a
  have hm := toInt_bounds m
  have hres := toInt_bounds r
  rw [hv]
  simp only [sign_eq_toInt_neg, ne_eq, decide_eq_decide]
  omega

/-! ### The instructions -/

/-- ADC has the effect of `ADC_op` on the operand's value: Resolve and Load leave A, P and the parameters. -/
theorem adcOp_effect (o : Operand) (s : State) :
    AdcEffect (s.operandValue o) (s.flag .c) ((s.resolve o).load o).2.draws s (adcOp o s) := by
  have h := State.addWithCarry_effect ((s.resolve o).load o).1 ((s.resolve o).load o).2
  rw [State.load_value, State.flag_load, State.flag_resolve] at h
  have heq : adcOp o s = ((s.resolve o).load o).2.addWithCarry (s.operandValue o) :=
    congrArg (State.addWithCarry · _) (State.load_value o s)
  rw [heq]
  exact h.congr (by simp) (by simp) (by simp) rfl

/-- SBC has the effect of `SBC_op` on the operand's value, likewise. -/
theorem sbcOp_effect (o : Operand) (s : State) :
    SbcEffect (s.operandValue o) (s.flag .c) ((s.resolve o).load o).2.draws s (sbcOp o s) := by
  have h := State.subWithBorrow_effect ((s.resolve o).load o).1 ((s.resolve o).load o).2
  rw [State.load_value, State.flag_load, State.flag_resolve] at h
  have heq : sbcOp o s = ((s.resolve o).load o).2.subWithBorrow (s.operandValue o) :=
    congrArg (State.subWithBorrow · _) (State.load_value o s)
  rw [heq]
  exact h.congr (by simp) (by simp) (by simp) rfl

/-- A documented instruction of a given identity completes with that identity's operation. -/
theorem exec_of_t1 {i : Instr} {m : Mnemonic} (s : State) (ht : i.tier = .t1) (hm : i.mnemonic = m) :
    exec i s = .next (opOf m i.operand s) := by
  rw [exec_admitted s (.inl ht), hm]

theorem State.not_openDecimal_of_digits {s : State} {m : Byte} (ha : Digits s.a) (hm : Digits m) : ¬s.OpenDecimal m :=
  fun h => h.2 ⟨ha, hm⟩

/-- Settles O22: on digits the operation is not open, and its nibbles are the digits of the sum or difference. -/
theorem decimalModeComputesDecimalNumbers : Obligations.DecimalModeComputesDecimalNumbers := by
  intro i s ht hd ha hm
  have hclosed := State.not_openDecimal_of_digits ha hm
  refine ⟨fun hadc => ⟨_, exec_of_t1 s ht hadc, ?_⟩, fun hsbc => ⟨_, exec_of_t1 s ht hsbc, ?_⟩⟩
  · obtain ⟨-, hdecimal, -⟩ := adcOp_effect i.operand s
    obtain ⟨hsum, -, -⟩ := hdecimal hd hclosed
    exact hsum.decimalValue_eq ha hm
  · obtain ⟨-, hdecimal, -⟩ := sbcOp_effect i.operand s
    obtain ⟨hdiff, -, -⟩ := hdecimal hd hclosed
    exact hdiff.decimalValue_eq ha hm

/-- Settles O23: the formulas of R171 and R172, read on two's-complement values. -/
theorem overflowIsSignedOverflow : Obligations.OverflowIsSignedOverflow := by
  intro i s ht hd
  refine ⟨fun hadc => ⟨_, exec_of_t1 s ht hadc, ?_⟩, fun hsbc => ⟨_, exec_of_t1 s ht hsbc, ?_⟩⟩
  · obtain ⟨hbinary, -, -⟩ := adcOp_effect i.operand s
    obtain ⟨hsum, -, -⟩ := hbinary hd
    exact hsum.overflow_iff
  · obtain ⟨hbinary, -, -⟩ := sbcOp_effect i.operand s
    obtain ⟨hdiff, -, -⟩ := hbinary hd
    exact hdiff.overflow_iff

end Sys2Proof.Machine

namespace Sys2Proof.Machine

/-! ## Loads, stores and transfers (42_load_store_transfer.md R200 to R211, 47_undocumented.md R374, R375) -/

/-! ### Frames in sequence -/

/-- `t` differs from `s` in A, X, Y, SP and P at most. -/
def RegistersOnly (s t : State) : Prop := t = { s with a := t.a, x := t.x, y := t.y, sp := t.sp, p := t.p }

/-- An update of listed registers and flags alone has their frame. -/
theorem RegistersOnly.frame {R : List Reg} {F : List Flag} {s t : State} (h : RegistersOnly s t) (hw : WritesOnly R F s t)
    (hp : if F = [] then t.p = s.p else t.p.getLsbD 5 = true) : Frame R F s t := by
  refine ⟨hw.regs, hw.flags, hp, ?_⟩
  rw [h]
  exact ⟨rfl, rfl, rfl, rfl, rfl, .of_eq rfl rfl rfl⟩

/-- What comes after a step that keeps every register and flag has its own frame from before that step. -/
theorem Frame.after {R : List Reg} {F : List Flag} {s u t : State} (h : Frame [] [] s u) (h' : Frame R F u t) :
    Frame R F s t := by
  obtain ⟨hr, hf, hp, hdebt, hparams, hinputs, hopen, hcalls, hans⟩ := h
  obtain ⟨hr', hf', hp', hdebt', hparams', hinputs', hopen', hcalls', hans'⟩ := h'
  rw [if_pos rfl] at hp
  exact ⟨fun r hn => (hr' r hn).trans (hr r (by simp)), fun f hn => (hf' f hn).trans (hf f (by simp)), hp ▸ hp',
    hdebt'.trans hdebt, hparams'.trans hparams, hinputs'.trans hinputs, hopen'.trans hopen, hcalls'.trans hcalls,
    hans.trans hans' hparams⟩

/-- A write of registers and flags after a quiet step. -/
theorem Quiet.after {R : List Reg} {F : List Flag} {o : Operand} {s u t : State} (h : Quiet [] [] o s u)
    (hw : WritesOnly R F u t) (hu : RegistersOnly u t) (hp : if F = [] then t.p = u.p else t.p.getLsbD 5 = true) :
    Quiet R F o s t := by
  obtain ⟨hpc, hframe, hmem, hhist⟩ := h
  refine ⟨?_, hframe.after (hu.frame hw hp), ?_, ?_⟩
  · rw [hu]; exact hpc
  · rw [hu]; exact hmem
  · rw [hu]; exact hhist

/-- A write of registers and then `SetZN`, after a quiet step. -/
theorem Quiet.after_setZN {R : List Reg} {o : Operand} {s u t : State} {v : Byte} (h : Quiet [] [] o s u)
    (hw : WritesOnly R [.z, .n] u t) (hu : RegistersOnly u t) : Quiet R [.z, .n] o s (t.setZN v) := by
  refine h.after (hw.trans (.setZN v t)) ?_ (State.constant_setZN v t)
  unfold RegistersOnly
  rw [hu]
  rfl

/-- An implied operand takes no access. -/
theorem Quiet.implied (s : State) : Quiet [] [] .imp s s :=
  ⟨rfl, RegistersOnly.frame rfl (.refl s) rfl, fun _ => rfl, rfl⟩

/-- `SetZN` leaves the Z and N of its byte (41_alu.md R170). -/
theorem State.znOf_setZN (r : Byte) (s : State) : ZNof r (s.setZN r) := znOf_of (by simp) (by simp)

/-- What holds of every mode of a list of forms holds of an operand's mode that is one of them. -/
theorem forms_mode {forms : List (Byte × Mode)} {K : Mode → Prop} {k : Mode} (hK : ∀ f ∈ forms, K f.2)
    (hk : ∃ f ∈ forms, k = f.2) : K k := by
  obtain ⟨f, hmem, rfl⟩ := hk
  exact hK f hmem

/-! ### Loads -/

/-- LDA, on the state that Resolve and Load leave. -/
theorem opOf_lda (o : Operand) (s : State) :
    opOf .lda o s = (((s.resolve o).load o).2.setA (s.operandValue o)).setZN (s.operandValue o) := by
  rw [← State.load_value]
  rfl

theorem opOf_ldx (o : Operand) (s : State) :
    opOf .ldx o s = (((s.resolve o).load o).2.setX (s.operandValue o)).setZN (s.operandValue o) := by
  rw [← State.load_value]
  rfl

theorem opOf_ldy (o : Operand) (s : State) :
    opOf .ldy o s = (((s.resolve o).load o).2.setY (s.operandValue o)).setZN (s.operandValue o) := by
  rw [← State.load_value]
  rfl

/-- In a mode that reads memory, a Load is one read of the effective address (40_addressing.md R154). -/
theorem State.load_eq_memRead {o : Operand} (h : o.mode ∉ [Mode.acc, .imm]) (s : State) : s.load o = s.memRead s.ea := by
  cases o
  case acc | imm => exact absurd (by simp [Operand.mode]) h
  all_goals rfl

theorem opOf_lax {o : Operand} (h : o.mode ∉ [Mode.acc, .imm]) (s : State) :
    opOf .lax o s =
      ((((s.resolve o).load o).2.setA (s.operandValue o)).setX (s.operandValue o)).setZN (s.operandValue o) := by
  rw [← State.load_value, State.load_eq_memRead h]
  rfl

/-- A statement about the forms of an identity that loads its operand, in none of which the operand is implied: the state
that Resolve and Load leave is at hand, and quiet. -/
theorem onForms_load {forms : List (Byte × Mode)} {m : Mnemonic} {P : Instr → State → State → Prop} (hf : FormsOf m forms)
    (hk : ∀ f ∈ forms, f.2 ≠ .imp)
    (hP : ∀ (i : Instr) (s : State), (∃ f ∈ forms, i.operand.mode = f.2) →
      Quiet [] [] i.operand s ((s.resolve i.operand).load i.operand).2 → P i s (opOf m i.operand s)) :
    OnForms forms fun i => ∀ s : State, ∃ t, exec i s = .next t ∧ P i s t :=
  onForms_of hf fun i hi hexec s =>
    ⟨_, hexec s, hP i s hi (State.resolve_load_quiet _ s (forms_mode (K := (· ≠ .imp)) hk hi))⟩

/-- Settles O17: each load is Resolve and Load, which are quiet, then a write of its registers and `SetZN` of the byte. -/
theorem loadsWriteTheirRegister : Obligations.LoadsWriteTheirRegister := by
  refine ⟨onForms_load (m := .lda) (by decide) (by decide) fun i s _ hload => ?_,
    onForms_load (m := .ldx) (by decide) (by decide) fun i s _ hload => ?_,
    onForms_load (m := .ldy) (by decide) (by decide) fun i s _ hload => ?_,
    onForms_load (m := .lax) (by decide) (by decide) fun i s hi hload => ?_⟩
  · rw [opOf_lda]
    exact ⟨rfl, State.znOf_setZN _ _, hload.after_setZN (.setA _ _) rfl⟩
  · rw [opOf_ldx]
    exact ⟨rfl, State.znOf_setZN _ _, hload.after_setZN (.setX _ _) rfl⟩
  · rw [opOf_ldy]
    exact ⟨rfl, State.znOf_setZN _ _, hload.after_setZN (.setY _ _) rfl⟩
  · rw [opOf_lax (forms_mode (K := (· ∉ [.acc, .imm])) (by decide) hi)]
    exact ⟨rfl, rfl, State.znOf_setZN _ _, hload.after_setZN (.trans (.setA _ _) (.setX _ _)) rfl⟩

/-! ### Stores -/

/-- A write of memory keeps every register and flag. -/
theorem State.memWrite_frame (a : Word) (v : Byte) (s : State) : Frame [] [] s (s.memWrite a v) :=
  ⟨fun _ _ => rfl, fun _ _ => rfl, rfl, rfl, rfl, rfl, rfl, rfl, .write a v s⟩

/-- Resolve and then a write at the effective address store one byte. -/
theorem State.storing_resolve_memWrite (o : Operand) (v : Byte) {s : State} (hwf : Memory.wf s.mem = true) :
    Storing [] [] o v s ((s.resolve o).memWrite (s.effective o) v) := by
  obtain ⟨hpc, hframe, -, hhist⟩ := State.resolve_resolved o s
  exact ⟨hpc, hframe.after (State.memWrite_frame _ _ _),
    storesAt_poke hwf (State.resolve_mem o s) (State.resolve_envOwns o _ s) rfl, congrArg (_ :: ·) hhist⟩

/-- The forms of a store instruction store its byte. -/
theorem onForms_store {forms : List (Byte × Mode)} {m : Mnemonic} (hf : FormsOf m forms) (hm : m ∈ [.sta, .stx, .sty, .sax]) :
    OnForms forms fun i => ∀ s : State, Memory.wf s.mem = true →
      ∃ t, exec i s = .next t ∧ Storing [] [] i.operand (s.storedByte m) s t :=
  onForms_of hf fun i _ hexec s hwf =>
    ⟨_, (hexec s).trans (congrArg _ (opOf_store hm i.operand s)), State.storing_resolve_memWrite _ _ hwf⟩

/-- Settles O18: each of the four identities stores its byte in one write after the pointer's reads. -/
theorem storesWriteOneByte : Obligations.StoresWriteOneByte :=
  ⟨onForms_store (m := .sta) (by decide) (by decide), onForms_store (m := .stx) (by decide) (by decide),
    onForms_store (m := .sty) (by decide) (by decide), onForms_store (m := .sax) (by decide) (by decide)⟩

/-! ### Transfers -/

/-- Settles O19: a write of one register and, but for TXS, `SetZN` of the copied byte, with no access. -/
theorem transfersCopyARegister : Obligations.TransfersCopyARegister := by
  refine ⟨onForms_of (m := .tax) (by decide) fun i _ hexec s => ⟨taxOp s, hexec s, rfl, State.znOf_setZN _ _, ?_⟩,
    onForms_of (m := .tay) (by decide) fun i _ hexec s => ⟨tayOp s, hexec s, rfl, State.znOf_setZN _ _, ?_⟩,
    onForms_of (m := .txa) (by decide) fun i _ hexec s => ⟨txaOp s, hexec s, rfl, State.znOf_setZN _ _, ?_⟩,
    onForms_of (m := .tya) (by decide) fun i _ hexec s => ⟨tyaOp s, hexec s, rfl, State.znOf_setZN _ _, ?_⟩,
    onForms_of (m := .tsx) (by decide) fun i _ hexec s => ⟨tsxOp s, hexec s, rfl, State.znOf_setZN _ _, ?_⟩,
    onForms_of (m := .txs) (by decide) fun i _ hexec s => ⟨txsOp s, hexec s, rfl, ?_⟩⟩
  · exact (Quiet.implied s).after_setZN (.setX _ _) rfl
  · exact (Quiet.implied s).after_setZN (.setY _ _) rfl
  · exact (Quiet.implied s).after_setZN (.setA _ _) rfl
  · exact (Quiet.implied s).after_setZN (.setA _ _) rfl
  · exact (Quiet.implied s).after_setZN (.setX _ _) rfl
  · exact (Quiet.implied s).after (.setSp _ _) rfl rfl

end Sys2Proof.Machine

namespace Sys2Proof.Machine

/-! ## Arithmetic, logic, comparisons, BIT and increments (43_arith_logic.md R240 to R254, 47_undocumented.md R391) -/

/-! ### ADC and SBC -/

/-- Where the events that the history gained are known, so is what is left of the environment's answers. -/
theorem AnswersUsed.of_history {s t : State} {es : List Event} (h : AnswersUsed s t) (hh : t.history = es ++ s.history) :
    t.answers = s.answersAfter es ∧ t.draws = s.drawsAfter es := by
  obtain ⟨es', hh', hans, hdraws⟩ := h
  obtain rfl : es' = es := List.append_cancel_right (hh'.symm.trans hh)
  exact ⟨hans, hdraws⟩

theorem Quiet.answersUsed {R : List Reg} {F : List Flag} {o : Operand} {s u : State} (h : Quiet R F o s u) :
    u.answers = s.answersAfter (s.operandReads o) ∧ u.draws = s.drawsAfter (s.operandReads o) := by
  obtain ⟨-, ⟨-, -, -, -, -, -, -, -, hused⟩, -, hhist⟩ := h
  exact hused.of_history hhist

/-- An addition or subtraction after a quiet step: the shape is that of `State.addWithCarry_frame`. -/
theorem Quiet.after_arith {o : Operand} {s u t : State} (h : Quiet [] [] o s u)
    (ht : ArithFrame u t ∧ t.mem = u.mem ∧ t.history = u.history ∧ t.answers = u.answers) :
    ArithFrame s t ∧ NoStore s t ∧ t.history = s.operandReads o ++ s.history := by
  obtain ⟨hanswers, -⟩ := h.answersUsed
  obtain ⟨hpc, ⟨hreg, hflag, -, hdebt, hparams, hinputs, hopen, hcalls, -⟩, hmem, hhist⟩ := h
  obtain ⟨⟨hpc', hx', hy', hsp', hflag', hp', hdebt', hparams', hinputs', hopen', hcalls', -⟩, hmem', hhist', hanswers'⟩ := ht
  refine ⟨⟨hpc'.trans hpc, hx'.trans (hreg .x (by simp)), hy'.trans (hreg .y (by simp)), hsp'.trans (hreg .sp (by simp)),
    fun f hf => (hflag' f hf).trans (hflag f (by simp)), hp', hdebt'.trans hdebt, hparams'.trans hparams,
    hinputs'.trans hinputs, hopen'.trans hopen, hcalls'.trans hcalls, _, hhist'.trans hhist, hanswers'.trans hanswers⟩,
    fun a => ?_, hhist'.trans hhist⟩
  rw [hmem']
  exact hmem a

/-- ADC in a mode whose Load is quiet: its effect, with the free values counted after the operand's reads, and its frame. -/
theorem adcOp_meets {o : Operand} {s : State} (h : Quiet [] [] o s ((s.resolve o).load o).2) :
    AdcEffect (s.operandValue o) (s.flag .c) (s.drawsAfter (s.operandReads o)) s (adcOp o s) ∧
      ArithFrame s (adcOp o s) ∧ NoStore s (adcOp o s) ∧ (adcOp o s).history = s.operandReads o ++ s.history := by
  obtain ⟨-, hdraws⟩ := h.answersUsed
  exact ⟨hdraws ▸ adcOp_effect o s, h.after_arith (State.addWithCarry_frame _ _)⟩

/-- SBC in a mode whose Load is quiet, likewise. -/
theorem sbcOp_meets {o : Operand} {s : State} (h : Quiet [] [] o s ((s.resolve o).load o).2) :
    SbcEffect (s.operandValue o) (s.flag .c) (s.drawsAfter (s.operandReads o)) s (sbcOp o s) ∧
      ArithFrame s (sbcOp o s) ∧ NoStore s (sbcOp o s) ∧ (sbcOp o s).history = s.operandReads o ++ s.history := by
  obtain ⟨-, hdraws⟩ := h.answersUsed
  exact ⟨hdraws ▸ sbcOp_effect o s, h.after_arith (State.subWithBorrow_frame _ _)⟩

/-- Settles O20: ADC is Resolve and Load, which are quiet, then `ADC_op` of the loaded byte. -/
theorem adcAddsWithCarry : Obligations.AdcAddsWithCarry :=
  onForms_load (m := .adc) (by decide) (by decide) fun _ _ _ hload => adcOp_meets hload

/-- Settles O21: SBC is Resolve and Load, then `SBC_op`; `$EB` is the same operation, admitted only under `ADMIT_T3`. -/
theorem sbcSubtractsWithBorrow : Obligations.SbcSubtractsWithBorrow := by
  refine ⟨onForms_load (m := .sbc) (by decide) (by decide) fun _ _ _ hload => sbcOp_meets hload,
    onFormsT3_of (m := .sbc) (by decide) fun i hi hexec s => ⟨fun hadmit => ?_, fun hadmit => ?_⟩⟩
  · have hload := State.resolve_load_quiet i.operand s (forms_mode (K := (· ≠ .imp)) (by decide) hi)
    exact ⟨_, (hexec s).trans (if_pos hadmit), sbcOp_meets hload⟩
  · exact (hexec s).trans (if_neg (by simp [hadmit]))

/-! ### AND, ORA and EOR -/

/-- AND, on the state that Resolve and Load leave. -/
theorem opOf_and (o : Operand) (s : State) :
    opOf .and o s =
      (((s.resolve o).load o).2.setA (s.a &&& s.operandValue o)).setZN (s.a &&& s.operandValue o) := by
  rw [← State.load_value, ← State.resolve_a o s, ← State.load_a o (s.resolve o)]
  rfl

theorem opOf_ora (o : Operand) (s : State) :
    opOf .ora o s =
      (((s.resolve o).load o).2.setA (s.a ||| s.operandValue o)).setZN (s.a ||| s.operandValue o) := by
  rw [← State.load_value, ← State.resolve_a o s, ← State.load_a o (s.resolve o)]
  rfl

theorem opOf_eor (o : Operand) (s : State) :
    opOf .eor o s =
      (((s.resolve o).load o).2.setA (s.a ^^^ s.operandValue o)).setZN (s.a ^^^ s.operandValue o) := by
  rw [← State.load_value, ← State.resolve_a o s, ← State.load_a o (s.resolve o)]
  rfl

/-- Settles O24: a write of A with the combined byte, whose bits the word operations give, and `SetZN` of it. -/
theorem logicCombinesBits : Obligations.LogicCombinesBits := by
  refine ⟨onForms_load (m := .and) (by decide) (by decide) fun i s _ hload => ?_,
    onForms_load (m := .ora) (by decide) (by decide) fun i s _ hload => ?_,
    onForms_load (m := .eor) (by decide) (by decide) fun i s _ hload => ?_⟩
  · rw [opOf_and]
    exact ⟨fun _ => BitVec.getLsbD_and, State.znOf_setZN _ _, hload.after_setZN (.setA _ _) rfl⟩
  · rw [opOf_ora]
    exact ⟨fun _ => BitVec.getLsbD_or, State.znOf_setZN _ _, hload.after_setZN (.setA _ _) rfl⟩
  · rw [opOf_eor]
    exact ⟨fun _ => BitVec.getLsbD_xor, State.znOf_setZN _ _, hload.after_setZN (.setA _ _) rfl⟩

/-! ### CMP, CPX and CPY -/

/-- CMP, on the state that Resolve and Load leave. -/
theorem opOf_cmp (o : Operand) (s : State) :
    opOf .cmp o s = ((s.resolve o).load o).2.compare s.a (s.operandValue o) := by
  rw [← State.load_value, ← State.resolve_a o s, ← State.load_a o (s.resolve o)]
  rfl

theorem opOf_cpx (o : Operand) (s : State) :
    opOf .cpx o s = ((s.resolve o).load o).2.compare s.x (s.operandValue o) := by
  rw [← State.load_value, ← State.resolve_x o s, ← State.load_x o (s.resolve o)]
  rfl

theorem opOf_cpy (o : Operand) (s : State) :
    opOf .cpy o s = ((s.resolve o).load o).2.compare s.y (s.operandValue o) := by
  rw [← State.load_value, ← State.resolve_y o s, ← State.load_y o (s.resolve o)]
  rfl

/-- A comparison after a quiet step: its three flags, and no register written (41_alu.md R177). -/
theorem Quiet.after_compare {o : Operand} {s u : State} (h : Quiet [] [] o s u) (r m : Byte) :
    ((u.compare r m).flag .c = true ↔ m.toNat ≤ r.toNat) ∧ ((u.compare r m).flag .z = true ↔ r = m) ∧
      (u.compare r m).flag .n = (r - m).getLsbD 7 ∧ Quiet [] [.c, .z, .n] o s (u.compare r m) :=
  ⟨by simp, (by simp : _ ↔ r - m = 0).trans sub_eq_zero, by simp, h.after (.compare r m u) rfl (State.constant_compare r m u)⟩

/-- Settles O25: each comparison is Resolve and Load, which are quiet, then `Compare` of its register with the byte. -/
theorem comparesSetFlagsOnly : Obligations.ComparesSetFlagsOnly :=
  ⟨onForms_load (m := .cmp) (by decide) (by decide) fun i s _ hload => opOf_cmp i.operand s ▸ hload.after_compare _ _,
    onForms_load (m := .cpx) (by decide) (by decide) fun i s _ hload => opOf_cpx i.operand s ▸ hload.after_compare _ _,
    onForms_load (m := .cpy) (by decide) (by decide) fun i s _ hload => opOf_cpy i.operand s ▸ hload.after_compare _ _⟩

/-! ### BIT -/

/-- BIT, on the state that Resolve and Load leave. -/
theorem opOf_bit (o : Operand) (s : State) : opOf .bit o s = ((s.resolve o).load o).2.bitTest (s.operandValue o) := by
  rw [← State.load_value]
  rfl

theorem WritesOnly.bitTest (m : Byte) (s : State) : WritesOnly [] [.z, .v, .n] s (s.bitTest m) :=
  .trans (.trans (.setFlag .z _ s) (.setFlag .v _ _)) (.setFlag .n _ _)

/-- Settles O26: BIT is Resolve and Load, which are quiet, then `BIT_op` of the byte. -/
theorem bitTestsMemory : Obligations.BitTestsMemory := by
  refine onForms_load (m := .bit) (by decide) (by decide) fun i s _ hload => ?_
  rw [opOf_bit]
  exact ⟨by simp, by simp, by simp, hload.after (.bitTest _ _) rfl (State.constant_bitTest _ _)⟩

/-! ### Read, modify and write -/

/-- Resolve, Load and then a write at the effective address store one byte. -/
theorem State.modifying_resolve_load_memWrite {o : Operand} (h : o.mode ≠ .imp) (v : Byte) {s : State}
    (hwf : Memory.wf s.mem = true) :
    Modifying [] [] o v s (((s.resolve o).load o).2.memWrite (s.effective o) v) := by
  obtain ⟨hpc, hframe, -, hhist⟩ := State.resolve_load_quiet o s h
  exact ⟨hpc, hframe.after (State.memWrite_frame _ _ _), storesAt_poke hwf (by simp) (by simp) rfl, congrArg (_ :: ·) hhist⟩

/-- A write of registers and flags after a read-modify-write. -/
theorem Modifying.after {R : List Reg} {F : List Flag} {o : Operand} {v : Byte} {s u t : State} (h : Modifying [] [] o v s u)
    (hw : WritesOnly R F u t) (hu : RegistersOnly u t) (hp : if F = [] then t.p = u.p else t.p.getLsbD 5 = true) :
    Modifying R F o v s t := by
  obtain ⟨hpc, hframe, hmem, hhist⟩ := h
  refine ⟨?_, hframe.after (hu.frame hw hp), ?_, ?_⟩
  · rw [hu]; exact hpc
  · rw [hu]; exact hmem
  · rw [hu]; exact hhist

/-! ### INC, DEC, INX, INY, DEX and DEY -/

/-- INC, on the state that Resolve and Load leave. -/
theorem opOf_inc {o : Operand} (h : o.mode ∉ [Mode.acc, .imm]) (s : State) :
    opOf .inc o s =
      (((s.resolve o).load o).2.memWrite (s.effective o) (inc (s.operandValue o))).setZN (inc (s.operandValue o)) := by
  rw [← State.load_value, State.load_eq_memRead h, ← State.resolve_ea]
  rfl

theorem opOf_dec {o : Operand} (h : o.mode ∉ [Mode.acc, .imm]) (s : State) :
    opOf .dec o s =
      (((s.resolve o).load o).2.memWrite (s.effective o) (dec (s.operandValue o))).setZN (dec (s.operandValue o)) := by
  rw [← State.load_value, State.load_eq_memRead h, ← State.resolve_ea]
  rfl

/-- The memory forms of an identity that writes back `f` of its operand and then does `SetZN`, where `f` adds `k` mod 256. -/
theorem onForms_addMod {forms : List (Byte × Mode)} {m : Mnemonic} {f : Byte → Byte} {k : Nat} (hf : FormsOf m forms)
    (hk : ∀ q ∈ forms, q.2 ≠ .imp ∧ q.2 ∉ [.acc, .imm]) (hadd : ∀ v, (f v).toNat = (v.toNat + k) % 256)
    (hop : ∀ {o : Operand}, o.mode ∉ [Mode.acc, .imm] → ∀ s, opOf m o s =
      (((s.resolve o).load o).2.memWrite (s.effective o) (f (s.operandValue o))).setZN (f (s.operandValue o))) :
    OnForms forms fun i => ∀ s : State, Memory.wf s.mem = true →
      ∃ t r, exec i s = .next t ∧ r.toNat = ((s.operandValue i.operand).toNat + k) % 256 ∧ ZNof r t ∧
        Modifying [] [.z, .n] i.operand r s t := by
  refine onForms_of hf fun i hi hexec s hwf => ?_
  obtain ⟨himp, hmem⟩ := forms_mode (K := fun q => q ≠ .imp ∧ q ∉ [.acc, .imm]) hk hi
  exact ⟨_, _, (hexec s).trans (congrArg _ (hop hmem s)), hadd _, State.znOf_setZN _ _,
    (State.modifying_resolve_load_memWrite himp _ hwf).after (.setZN _ _) rfl (State.constant_setZN _ _)⟩

/-- Settles O27: a write of the operand plus or minus one, to memory or to a register, and `SetZN` of it. -/
theorem incrementsWrap : Obligations.IncrementsWrap := by
  refine ⟨onForms_addMod (m := .inc) (by decide) (by decide) toNat_inc opOf_inc,
    onForms_addMod (m := .dec) (by decide) (by decide) toNat_dec opOf_dec,
    onForms_of (m := .inx) (by decide) fun i _ hexec s => ⟨inxOp s, hexec s, toNat_inc s.x, State.znOf_setZN _ _, ?_⟩,
    onForms_of (m := .iny) (by decide) fun i _ hexec s => ⟨inyOp s, hexec s, toNat_inc s.y, State.znOf_setZN _ _, ?_⟩,
    onForms_of (m := .dex) (by decide) fun i _ hexec s => ⟨dexOp s, hexec s, toNat_dec s.x, State.znOf_setZN _ _, ?_⟩,
    onForms_of (m := .dey) (by decide) fun i _ hexec s => ⟨deyOp s, hexec s, toNat_dec s.y, State.znOf_setZN _ _, ?_⟩⟩
  · exact (Quiet.implied s).after_setZN (.setX _ _) rfl
  · exact (Quiet.implied s).after_setZN (.setY _ _) rfl
  · exact (Quiet.implied s).after_setZN (.setX _ _) rfl
  · exact (Quiet.implied s).after_setZN (.setY _ _) rfl

end Sys2Proof.Machine

namespace Sys2Proof.Machine

/-! ## Shifts and rotates (41_alu.md R178 to R181, 44_shift_rotate.md R270 to R273) -/

/-- What the four identities do with the result `q` of their shift, after Resolve and Load: the flags, then the store. -/
def State.shiftOperand (o : Operand) (q : ShiftResult) (s : State) : State :=
  (((s.resolve o).load o).2.shiftFlags q).store o q.r

theorem opOf_asl (o : Operand) (s : State) : opOf .asl o s = s.shiftOperand o (asl (s.operandValue o)) := by
  rw [← State.load_value]
  rfl

theorem opOf_lsr (o : Operand) (s : State) : opOf .lsr o s = s.shiftOperand o (lsr (s.operandValue o)) := by
  rw [← State.load_value]
  rfl

/-- ROL, with the carry in from before Resolve and Load, which leave it. -/
theorem opOf_rol (o : Operand) (s : State) : opOf .rol o s = s.shiftOperand o (rol (s.operandValue o) (s.flag .c)) := by
  rw [← State.load_value, ← State.flag_resolve o .c s, ← State.flag_load o .c (s.resolve o)]
  rfl

theorem opOf_ror (o : Operand) (s : State) : opOf .ror o s = s.shiftOperand o (ror (s.operandValue o) (s.flag .c)) := by
  rw [← State.load_value, ← State.flag_resolve o .c s, ← State.flag_load o .c (s.resolve o)]
  rfl

/-- In a mode other than the accumulator, a Store is one write at the effective address (40_addressing.md R154). -/
theorem State.store_eq_memWrite {o : Operand} (h : o.mode ≠ .acc) (v : Byte) (s : State) :
    s.store o v = s.memWrite s.ea v := by
  cases o
  case acc => exact absurd rfl h
  all_goals rfl

/-- A write of memory and a write of the flags of a shift change places. -/
theorem State.memWrite_shiftFlags (a : Word) (v : Byte) (q : ShiftResult) (s : State) :
    (s.shiftFlags q).memWrite a v = (s.memWrite a v).shiftFlags q := rfl

/-- A shift in memory is Resolve, Load and a write at the effective address, and then the flags. -/
theorem State.shiftOperand_mem {o : Operand} (h : o.mode ≠ .acc) (q : ShiftResult) (s : State) :
    s.shiftOperand o q = (((s.resolve o).load o).2.memWrite (s.effective o) q.r).shiftFlags q := by
  rw [State.shiftOperand, State.store_eq_memWrite h, State.memWrite_shiftFlags, State.shiftFlags_ea, State.load_ea,
    State.resolve_ea]

theorem State.znOf_shiftFlags (q : ShiftResult) (s : State) : ZNof q.r (s.shiftFlags q) := State.znOf_setZN _ _

/-- The frame of a shift of A: A, C, Z and N, and no access. -/
theorem State.quiet_shiftOperand_acc (q : ShiftResult) (s : State) :
    Quiet [.a] [.c, .z, .n] .acc s (s.shiftOperand .acc q) :=
  (State.resolve_load_quiet .acc s (by decide)).after (.trans (.shiftFlags q _) (.setA _ _)) rfl
    (State.constant_shiftFlags q _)

/-- The frame of a shift in memory: C, Z and N, and one read and one write at the effective address. -/
theorem State.modifying_shiftOperand_mem {o : Operand} (himp : o.mode ≠ .imp) (hacc : o.mode ≠ .acc) (q : ShiftResult)
    {s : State} (hwf : Memory.wf s.mem = true) : Modifying [] [.c, .z, .n] o q.r s (s.shiftOperand o q) := by
  rw [State.shiftOperand_mem hacc]
  exact (State.modifying_resolve_load_memWrite himp _ hwf).after (.shiftFlags q _) rfl (State.constant_shiftFlags q _)

/-! The forms of an identity that shifts its operand by `f`, which takes the old C, where `f` gives the number `r` and the
carry `out`. -/

section
variable {m : Mnemonic} {f : Byte → Bool → ShiftResult} {r : Byte → Bool → Nat} {out : Byte → Bool}

/-- The accumulator form. -/
theorem onForms_shift_acc {op : Byte} (hf : FormsOf m [(op, .acc)])
    (hop : ∀ o s, opOf m o s = s.shiftOperand o (f (s.operandValue o) (s.flag .c)))
    (hspec : ∀ v c, (f v c).r.toNat = r v c ∧ (f v c).out = out v) :
    OnForms [(op, .acc)] fun i => ∀ s : State,
      ∃ t, exec i s = .next t ∧ t.a.toNat = r s.a (s.flag .c) ∧ t.flag .c = out s.a ∧ ZNof t.a t ∧
        Quiet [.a] [.c, .z, .n] .acc s t := by
  refine onForms_of hf fun i hi hexec s => ?_
  have hacc : i.operand = .acc := eq_acc_of_mode (forms_mode (K := (· = .acc)) (by simp) hi)
  obtain ⟨hr, hout⟩ := hspec s.a (s.flag .c)
  refine ⟨s.shiftOperand .acc (f s.a (s.flag .c)), ?_, hr, ?_, State.znOf_shiftFlags _ _, State.quiet_shiftOperand_acc _ s⟩
  · rw [hexec s, hop, hacc]
    rfl
  · rw [← hout]
    simp [State.shiftOperand]

/-- The memory forms. -/
theorem onForms_shift_mem {forms : List (Byte × Mode)} (hf : FormsOf m forms)
    (hk : ∀ q ∈ forms, q.2 ≠ .imp ∧ q.2 ≠ .acc)
    (hop : ∀ o s, opOf m o s = s.shiftOperand o (f (s.operandValue o) (s.flag .c)))
    (hspec : ∀ v c, (f v c).r.toNat = r v c ∧ (f v c).out = out v) :
    OnForms forms fun i => ∀ s : State, Memory.wf s.mem = true →
      ∃ t b, exec i s = .next t ∧
        (b.toNat = r (s.operandValue i.operand) (s.flag .c) ∧ t.flag .c = out (s.operandValue i.operand)) ∧
        ZNof b t ∧ Modifying [] [.c, .z, .n] i.operand b s t := by
  refine onForms_of hf fun i hi hexec s hwf => ?_
  obtain ⟨himp, hacc⟩ := forms_mode (K := fun k => k ≠ .imp ∧ k ≠ .acc) hk hi
  obtain ⟨hr, hout⟩ := hspec (s.operandValue i.operand) (s.flag .c)
  refine ⟨_, _, (hexec s).trans (congrArg _ (hop i.operand s)), ⟨hr, ?_⟩, ?_,
    State.modifying_shiftOperand_mem himp hacc _ hwf⟩
  · rw [State.shiftOperand_mem hacc, ← hout]
    simp
  · rw [State.shiftOperand_mem hacc]
    exact State.znOf_shiftFlags _ _

end

/-- Settles O28: ASL and LSR are a shift of the operand that ignores the old C. -/
theorem shiftsMoveBitsByOne : Obligations.ShiftsMoveBitsByOne :=
  ⟨onForms_shift_acc (m := .asl) (by decide) opOf_asl fun v _ => asl_spec v,
    onForms_shift_mem (m := .asl) (by decide) (by decide) opOf_asl fun v _ => asl_spec v,
    onForms_shift_acc (m := .lsr) (by decide) opOf_lsr fun v _ => lsr_spec v,
    onForms_shift_mem (m := .lsr) (by decide) (by decide) opOf_lsr fun v _ => lsr_spec v⟩

/-- Settles O29: ROL and ROR are a shift of the operand that takes the old C in. -/
theorem rotatesGoThroughCarry : Obligations.RotatesGoThroughCarry :=
  ⟨onForms_shift_acc (m := .rol) (by decide) opOf_rol rol_spec,
    onForms_shift_mem (m := .rol) (by decide) (by decide) opOf_rol rol_spec,
    onForms_shift_acc (m := .ror) (by decide) opOf_ror ror_spec,
    onForms_shift_mem (m := .ror) (by decide) (by decide) opOf_ror ror_spec⟩

end Sys2Proof.Machine

namespace Sys2Proof.Machine

/-! ## Branches, jumps and subroutines (45_control.md R300 to R313) -/

theorem eq_rel_of_mode {o : Operand} (h : o.mode = .rel) : ∃ d, o = .rel d := by
  cases o
  case rel d => exact ⟨d, rfl⟩
  all_goals cases h

theorem eq_abs_of_mode {o : Operand} (h : o.mode = .abs) : ∃ w, o = .abs w := by
  cases o
  case abs w => exact ⟨w, rfl⟩
  all_goals cases h

/-- No frame speaks of PC. -/
theorem Frame.setPc {R : List Reg} {F : List Flag} {s u : State} (h : Frame R F s u) (v : Word) : Frame R F s (u.setPc v) := h

/-! ### Branches -/

/-- What `Branch(cond)` does (R300): Resolve, and the target in PC exactly if the condition holds. -/
theorem branchOn_meets (c : Bool) (o : Operand) (s : State) :
    (c = true → (branchOn c o s).pc = s.effective o) ∧ (c ≠ true → (branchOn c o s).pc = s.pc) ∧
      Frame [] [] s (branchOn c o s) ∧ NoStore s (branchOn c o s) ∧
      (branchOn c o s).history = s.pointerEvents o ++ s.history := by
  obtain ⟨hpc, hframe, hstore, hhist⟩ := State.resolve_resolved o s
  cases c
  case false => exact ⟨fun h => absurd h Bool.false_ne_true, fun _ => hpc, hframe, hstore, hhist⟩
  case true => exact ⟨fun _ => State.resolve_ea o s, fun h => absurd rfl h, hframe.setPc _, hstore, hhist⟩

/-- The form of an identity that branches where the flag `f` has the value `b`. -/
theorem onForms_branch {op : Byte} {m : Mnemonic} {f : Flag} {b : Bool} {c : State → Bool} (hf : FormsOf m [(op, .rel)])
    (hop : ∀ o s, opOf m o s = branchOn (c s) o s) (hc : ∀ s, c s = true ↔ s.flag f = b) :
    OnForms [(op, .rel)] fun i => ∀ s : State, ∃ t, exec i s = .next t ∧
      (s.flag f = b → t.pc = s.effective i.operand) ∧ (s.flag f ≠ b → t.pc = s.pc) ∧
      Frame [] [] s t ∧ NoStore s t ∧ t.history = s.history := by
  refine onForms_of hf fun i hi hexec s => ⟨_, (hexec s).trans (congrArg _ (hop i.operand s)), ?_⟩
  obtain ⟨d, hd⟩ := eq_rel_of_mode (forms_mode (K := (· = .rel)) (by simp) hi)
  rw [hd, ne_eq, ← hc s]
  exact branchOn_meets (c s) (.rel d) s

/-- Settles O30: each of the eight is `Branch` on its flag or on the flag's complement. -/
theorem branchesTestOneFlag : Obligations.BranchesTestOneFlag :=
  ⟨onForms_branch (m := .bpl) (c := fun s => !s.flag .n) (by decide) (fun _ _ => rfl) fun _ => by simp,
    onForms_branch (m := .bmi) (by decide) (fun _ _ => rfl) fun _ => Iff.rfl,
    onForms_branch (m := .bvc) (c := fun s => !s.flag .v) (by decide) (fun _ _ => rfl) fun _ => by simp,
    onForms_branch (m := .bvs) (by decide) (fun _ _ => rfl) fun _ => Iff.rfl,
    onForms_branch (m := .bcc) (c := fun s => !s.flag .c) (by decide) (fun _ _ => rfl) fun _ => by simp,
    onForms_branch (m := .bcs) (by decide) (fun _ _ => rfl) fun _ => Iff.rfl,
    onForms_branch (m := .bne) (c := fun s => !s.flag .z) (by decide) (fun _ _ => rfl) fun _ => by simp,
    onForms_branch (m := .beq) (by decide) (fun _ _ => rfl) fun _ => Iff.rfl⟩

/-! ### JMP -/

theorem HookOpened.of_eq {w : Word} {q : Option Word} {s t : State} (h : t = s.openHook w q) : HookOpened w q s t :=
  h.trans (State.openHook_opened w q s)

theorem State.trapTransfer_untrapped {w : Word} {s : State} (h : w ∉ s.params.traps) : s.trapTransfer w = s.setPc w :=
  if_neg h

theorem State.trapTransfer_opened {w : Word} {s : State} (h : w ∈ s.params.traps) : HookOpened w none s (s.trapTransfer w) :=
  .of_eq (if_pos h)

theorem opOf_jmp (o : Operand) (s : State) : opOf .jmp o s = (s.resolve o).trapTransfer (s.effective o) := by
  rw [← State.resolve_ea]
  rfl

/-- Settles O31: JMP is Resolve and then `TrapTransfer` to the effective address, whose two branches are the two clauses. -/
theorem jmpTransfersThroughTheHook : Obligations.JmpTransfersThroughTheHook := by
  refine ⟨onForms_of (m := .jmp) (by decide) fun i _ hexec s hw => ?_,
    onForms_of (m := .jmp) (by decide) fun i _ hexec s hw => ?_⟩
  all_goals
    rw [← State.resolve_params i.operand] at hw
    rw [hexec s, opOf_jmp]
  · obtain ⟨-, hframe, hstore, hhist⟩ := State.resolve_resolved i.operand s
    exact ⟨_, congrArg _ (State.trapTransfer_untrapped hw), rfl, hframe.setPc _, hstore, hhist⟩
  · exact ⟨_, _, rfl, State.resolve_resolved i.operand s, State.trapTransfer_opened hw⟩

/-! ### JSR -/

theorem Pushed16.frame {v : Word} {s t : State} (h : Pushed16 v s t) : Frame [.sp] [] s t := by
  obtain ⟨-, -, -, -, -, -, hframe⟩ := h
  exact hframe

/-- Resolve of an absolute operand writes latches only, so a push after it is one from before it. -/
theorem State.setEa_push16_pushed (w v : Word) {s : State} (hwf : Memory.wf s.mem = true) :
    Pushed16 v s ((s.setEa w).push16 v) :=
  State.push16_pushed (s := s.setEa w) v hwf

/-- Settles O32, by the three things that JSR can do: push and go, push and open the hook, or open the hook alone. -/
theorem jsrPushesAndTransfers : Obligations.JsrPushesAndTransfers := by
  refine ⟨onForms_of (m := .jsr) (by decide) fun i hi hexec s => ?_, onForms_of (m := .jsr) (by decide) fun i hi hexec s => ?_⟩
  all_goals
    obtain ⟨w, hw⟩ := eq_abs_of_mode (forms_mode (K := (· = .abs)) (by simp) hi)
    rw [hexec s, hw]
    intro htrap hwf
    have hpushed := State.setEa_push16_pushed w (s.pc - 1) hwf
  · exact ⟨_, _, congrArg _ (jsrOp_untrapped w s htrap), hpushed, hpushed.frame.setPc w, rfl, rfl, rfl, rfl⟩
  · exact ⟨_, rfl, fun horder => ⟨_, hpushed, .of_eq (jsrOp_pushThenHook w s htrap horder)⟩,
      fun horder => ⟨_, State.resolve_resolved (.abs w) s, .of_eq (jsrOp_hookThenPush w s htrap horder)⟩⟩

/-! ### RTS -/

/-- RTS reads the two bytes above SP, low byte first, and then writes SP and PC (R313). -/
theorem rtsOp_eq (s : State) :
    rtsOp s = ((s.afterReads [stackAddr (s.sp + 1), stackAddr (s.sp + 2)]).setSp (s.sp + 2)).setPc
      (word ((s.afterRead (stackAddr (s.sp + 1))).peekValue (stackAddr (s.sp + 2))) (s.peekValue (stackAddr (s.sp + 1))) + 1) := by
  rw [rtsOp, State.pull16_eq, add_one_one]
  rfl

theorem State.afterReads_frame (l : List Word) (s : State) : Frame [] [] s (s.afterReads l) := by
  refine ⟨fun r _ => ?_, fun f _ => ?_, by simp, by simp, by simp, by simp, by simp, by simp, .reads l s⟩
  · cases r <;> simp [State.reg]
  · simp [State.flag]

theorem State.setSp_frame (v : Byte) (s : State) : Frame [.sp] [] s (s.setSp v) :=
  RegistersOnly.frame rfl (.setSp v s) rfl

/-- Settles O34: two reads, which change the history and the environment's answers only, and then SP and PC. -/
theorem rtsReturnsAfterTheCall : Obligations.RtsReturnsAfterTheCall := by
  refine onForms_of (m := .rts) (by decide) fun i _ hexec s => ?_
  exact ⟨_, (hexec s).trans (congrArg _ (rtsOp_eq s)), rfl, rfl,
    ((State.afterReads_frame _ s).after (State.setSp_frame _ _)).setPc _, fun _ => rfl, rfl⟩

/-- RTS where the two bytes above SP are plain RAM and hold the word `ret`. -/
theorem rtsOp_of_stack {ret : Word} {s : State}
    (hlo : s.envOwns (stackAddr (s.sp + 1)) = false) (hhi : s.envOwns (stackAddr (s.sp + 2)) = false)
    (hl : s.mem.read (stackAddr (s.sp + 1)) = lo8 ret) (hh : s.mem.read (stackAddr (s.sp + 2)) = hi8 ret) :
    (rtsOp s).pc = ret + 1 ∧ (rtsOp s).sp = s.sp + 2 := by
  rw [rtsOp_eq, State.peekValue_ram (s := s.afterRead _) hhi, State.peekValue_ram hlo, State.afterRead_mem, hl, hh,
    word_hi8_lo8]
  exact ⟨rfl, rfl⟩

theorem State.envOwns_congr {s u : State} (h : u.params.memEnv = s.params.memEnv) (a : Word) : u.envOwns a = s.envOwns a := by
  rw [State.envOwns, State.envOwns, h]

/-- Settles O35: the two bytes above the new SP are those that JSR pushed, wherever SP wraps. -/
theorem rtsUndoesJsr : Obligations.RtsUndoesJsr := by
  intro w s htrap hwf hownHi hownLo
  obtain ⟨-, hsp, hreadHi, hreadLo, -⟩ := State.setEa_push16_pushed w (s.pc - 1) hwf
  refine ⟨((s.setEa w).push16 (s.pc - 1)).setPc w, congrArg Host.Outcome.next (jsrOp_untrapped w s htrap), rfl,
    fun u henv husp hhi hlo => ⟨rtsOp u, rfl, ?_⟩⟩
  have hspLo : u.sp + 1 = s.sp - 1 := by rw [husp, State.setPc_sp, hsp]; bv_omega
  have hspHi : u.sp + 2 = s.sp := by rw [husp, State.setPc_sp, hsp, BitVec.sub_add_cancel]
  obtain ⟨hpc, hsp'⟩ := rtsOp_of_stack (ret := s.pc - 1) (s := u)
    (by rw [hspLo, State.envOwns_congr henv, hownLo]) (by rw [hspHi, State.envOwns_congr henv, hownHi])
    (by rw [hspLo, hlo]; exact hreadLo hownLo) (by rw [hspHi, hhi]; exact hreadHi hownHi)
  exact ⟨hpc.trans (BitVec.sub_add_cancel _ _), hsp'.trans hspHi⟩

end Sys2Proof.Machine

namespace Sys2Proof.Machine

/-! ## The stack, the flags, NOP, BRK and RTI (46_stack_flags_system.md R330 to R341, R360, R361, 47_undocumented.md R390) -/

/-! ### Stack addresses in numbers -/

theorem stackAddr_eq_ofNat (b : Byte) : stackAddr b = BitVec.ofNat 16 (256 + b.toNat) := by
  rw [← toNat_stackAddr, BitVec.ofNat_toNat, BitVec.setWidth_eq]

theorem stackAddr_add_one_eq_ofNat (b : Byte) : stackAddr (b + 1) = BitVec.ofNat 16 (256 + (b.toNat + 1) % 256) := by
  rw [stackAddr_eq_ofNat, ← toNat_inc, inc]

/-! ### PHA and PHP -/

/-- The copy of P that PHP and BRK push, as the spec writes it (60_exceptions.md R425). -/
theorem State.pushedByInstruction_eq (s : State) : s.pushedByInstruction = s.p ||| 0x30 := rfl

theorem State.push_frame (v : Byte) (s : State) : Frame [.sp] [] s (s.push v) :=
  (State.memWrite_frame _ v s).after (State.setSp_frame _ _)

theorem State.push_storesAt (v : Byte) {s : State} (hwf : Memory.wf s.mem = true) :
    StoresAt (stackAddr s.sp) v s (s.push v) :=
  storesAt_poke hwf rfl rfl (State.push_mem v s)

/-- The form of an identity that pushes the byte `v` gives. -/
theorem onForms_push {op : Byte} {m : Mnemonic} {v : State → Byte} (hf : FormsOf m [(op, .imp)])
    (hop : ∀ o s, opOf m o s = s.push (v s)) :
    OnForms [(op, .imp)] fun i => ∀ s : State, Memory.wf s.mem = true →
      ∃ t, exec i s = .next t ∧ t.pc = s.pc ∧ t.sp.toNat = (s.sp.toNat + 255) % 256 ∧
        StoresAt (BitVec.ofNat 16 (256 + s.sp.toNat)) (v s) s t ∧ Frame [.sp] [] s t ∧
        t.history = .write (BitVec.ofNat 16 (256 + s.sp.toNat)) (v s) :: s.history := by
  refine onForms_of hf fun i _ hexec s hwf => ⟨_, (hexec s).trans (congrArg _ (hop i.operand s)), ?_⟩
  rw [← stackAddr_eq_ofNat]
  exact ⟨rfl, toNat_dec s.sp, State.push_storesAt _ hwf, State.push_frame _ s, State.push_history _ s⟩

/-- Settles O36: both are one `Push`, of A or of P with bits 4 and 5 set. -/
theorem pushesStoreInPageOne : Obligations.PushesStoreInPageOne :=
  ⟨onForms_push (m := .pha) (by decide) fun _ _ => rfl,
    onForms_push (m := .php) (by decide) fun _ s => congrArg s.push s.pushedByInstruction_eq⟩

/-! ### PLA and PLP -/

theorem mem_allFlags (f : Flag) : f ∈ allFlags := by cases f <;> decide

/-- A write of registers and flags after reads, which keep every register and flag. -/
theorem RegistersOnly.frame_after_reads {R : List Reg} {F : List Flag} {l : List Word} {s t : State}
    (h : RegistersOnly (s.afterReads l) t) (hw : WritesOnly R F (s.afterReads l) t) (hF : F ≠ [])
    (hp : t.p.getLsbD 5 = true) : Frame R F s t :=
  (State.afterReads_frame l s).after (h.frame hw (by rwa [if_neg hF]))

/-- PLA is one read, and then a write of SP and A and `SetZN` of the byte (R331). -/
theorem plaOp_eq (s : State) :
    plaOp s = (((s.afterReads [stackAddr (s.sp + 1)]).setSp (s.sp + 1)).setA (s.peekValue (stackAddr (s.sp + 1)))).setZN
      (s.peekValue (stackAddr (s.sp + 1))) := rfl

/-- PLP is one read, and then a write of SP and P (R333). -/
theorem plpOp_eq (s : State) :
    plpOp s = ((s.afterReads [stackAddr (s.sp + 1)]).setSp (s.sp + 1)).writeP (s.peekValue (stackAddr (s.sp + 1))) := rfl

theorem plaOp_frame (s : State) : Frame [.a, .sp] [.z, .n] s (plaOp s) := by
  rw [plaOp_eq]
  exact RegistersOnly.frame_after_reads rfl
    (.trans (.setSp _ _ (by decide)) (.trans (.setA _ _ (by decide)) (.setZN _ _ (by decide) (by decide)))) (by decide)
    (State.constant_setZN _ _)

/-- Reads, and then a write of SP and of all of P: PLP, and RTI but for PC. -/
theorem State.frame_afterReads_setSp_writeP (l : List Word) (sp p : Byte) (s : State) :
    Frame [.sp] allFlags s (((s.afterReads l).setSp sp).writeP p) :=
  RegistersOnly.frame_after_reads rfl (.trans (.setSp sp _ (by decide)) (.writeP p _ mem_allFlags)) (by decide)
    (State.constant_writeP p _)

/-- Settles O37: both read the byte above SP, and then write SP and their register. -/
theorem pullsReadPageOne : Obligations.PullsReadPageOne := by
  refine ⟨onForms_of (m := .pla) (by decide) fun i _ hexec s => ?_, onForms_of (m := .plp) (by decide) fun i _ hexec s => ?_⟩
  all_goals rw [← stackAddr_add_one_eq_ofNat]
  · exact ⟨plaOp s, hexec s, rfl, State.znOf_setZN _ _, toNat_inc s.sp, rfl, plaOp_frame s, fun _ => rfl, rfl⟩
  · exact ⟨_, (hexec s).trans (congrArg _ (plpOp_eq s)), rfl, toNat_inc s.sp, rfl,
      State.frame_afterReads_setSp_writeP _ _ _ s, fun _ => rfl, rfl⟩

/-! ### CLC, SEC, CLI, SEI, CLD, SED and CLV -/

/-- The form of an identity that gives the flag `f` the value `b`. -/
theorem onForms_setFlag {op : Byte} {m : Mnemonic} {f : Flag} {b : Bool} (hf : FormsOf m [(op, .imp)])
    (hop : ∀ o s, opOf m o s = s.setFlag f b) :
    OnForms [(op, .imp)] fun i => ∀ s : State,
      ∃ t, exec i s = .next t ∧ t.flag f = b ∧ Quiet [] [f] .imp s t :=
  onForms_of hf fun i _ hexec s => ⟨s.setFlag f b, (hexec s).trans (congrArg _ (hop i.operand s)), by simp,
    (Quiet.implied s).after (.setFlag f b s (List.mem_singleton_self f)) rfl (State.constant_setFlag f b s)⟩

/-- Settles O38: each is a write of its one flag. -/
theorem flagInstructionsWriteOneFlag : Obligations.FlagInstructionsWriteOneFlag :=
  ⟨onForms_setFlag (m := .clc) (by decide) fun _ _ => rfl, onForms_setFlag (m := .sec) (by decide) fun _ _ => rfl,
    onForms_setFlag (m := .cli) (by decide) fun _ _ => rfl, onForms_setFlag (m := .sei) (by decide) fun _ _ => rfl,
    onForms_setFlag (m := .cld) (by decide) fun _ _ => rfl, onForms_setFlag (m := .sed) (by decide) fun _ _ => rfl,
    onForms_setFlag (m := .clv) (by decide) fun _ _ => rfl⟩

/-! ### NOP -/

theorem eq_imp_of_mode {o : Operand} (h : o.mode = .imp) : o = .imp := by
  cases o
  case imp => rfl
  all_goals cases h

/-- NOP does nothing where its operand is implied, and in every other mode it is Resolve and Load (R341, R390). -/
theorem nopOp_quiet (o : Operand) (s : State) : Quiet [] [] o s (nopOp o s) := by
  cases o
  case imp => exact Quiet.implied s
  all_goals exact State.resolve_load_quiet _ s nofun

/-- Settles O39: `$EA` is always admitted, and the 27 bytes of tier T3 exactly where `ADMIT_T3` is true. -/
theorem nopsChangeNothing : Obligations.NopsChangeNothing := by
  refine ⟨onForms_of (m := .nop) (by decide) fun i hi hexec s => ⟨_, hexec s, ?_⟩,
    onFormsT3_of (m := .nop) (by decide) fun i _ hexec s => ⟨fun hadmit => ?_, fun hadmit => ?_⟩⟩
  · rw [eq_imp_of_mode (forms_mode (K := (· = .imp)) (by simp) hi)]
    exact nopOp_quiet .imp s
  · exact ⟨_, (hexec s).trans (if_pos hadmit), nopOp_quiet _ s⟩
  · exact (hexec s).trans (if_neg (by simp [hadmit]))

/-! ### BRK and RTI -/

/-- Settles O40: BRK is the shared entry, whose vector lies outside page 1, so that no push reaches it. -/
theorem brkEntersTheHandler : Obligations.BrkEntersTheHandler :=
  onForms_of (m := .brk) (by decide) fun _ _ hexec s hwf =>
    ⟨brkOp s, hexec s, State.enterHandler_entered (s.pc + 1) s.pushedByInstruction irqVector hwf (by decide) (by decide)⟩

/-- RTI reads the three bytes above SP, and then writes SP, P and PC (R361). -/
theorem rtiOp_eq (s : State) :
    rtiOp s =
      (((s.afterReads [stackAddr (s.sp + 1), stackAddr (s.sp + 2), stackAddr (s.sp + 3)]).setSp (s.sp + 3)).writeP
        (s.peekValue (stackAddr (s.sp + 1)))).setPc
        (word
          (((s.afterRead (stackAddr (s.sp + 1))).afterRead (stackAddr (s.sp + 2))).peekValue (stackAddr (s.sp + 3)))
          ((s.afterRead (stackAddr (s.sp + 1))).peekValue (stackAddr (s.sp + 2)))) := by
  rw [rtiOp, State.returnFromHandler_eq, add_one_one, add_two_one]
  rfl

/-- Settles O41: three reads, which keep every register and flag, and then SP, P and PC. -/
theorem rtiReturnsFromTheHandler : Obligations.RtiReturnsFromTheHandler := by
  refine onForms_of (m := .rti) (by decide) fun i _ hexec s => ?_
  exact ⟨_, (hexec s).trans (congrArg _ (rtiOp_eq s)), rfl, rfl, rfl,
    (State.frame_afterReads_setSp_writeP _ _ _ s).setPc _, fun _ => rfl, rfl⟩

end Sys2Proof.Machine

namespace Sys2Proof.Machine

/-! ## Undocumented opcodes and refused bytes (47_undocumented.md R370 to R377, R400 to R412, 40_addressing.md R140) -/

theorem ne_acc_of_notMem {k : Mode} (h : k ∉ [Mode.acc, .imm]) : k ≠ .acc :=
  fun e => h (e ▸ List.mem_cons_self)

/-! ### SLO, RLA and SRE -/

/-- A shift in memory with the result `q`, and then A combined by `g` with the byte written, and `SetZN` of A. -/
def State.shiftThenLogic (o : Operand) (q : ShiftResult) (g : Byte → Byte → Byte) (s : State) : State :=
  ((s.shiftOperand o q).setA (g s.a q.r)).setZN (g s.a q.r)

theorem opOf_slo {o : Operand} (h : o.mode ∉ [Mode.acc, .imm]) (s : State) :
    opOf .slo o s = s.shiftThenLogic o (asl (s.operandValue o)) (· ||| ·) := by
  simp only [opOf, sloOp, State.shiftThenLogic, State.shiftOperand_mem (ne_acc_of_notMem h), ← State.memWrite_shiftFlags]
  simp [← State.load_value, State.load_eq_memRead h]

/-- RLA, with the carry in from before Resolve, which leaves it. -/
theorem opOf_rla {o : Operand} (h : o.mode ∉ [Mode.acc, .imm]) (s : State) :
    opOf .rla o s = s.shiftThenLogic o (rol (s.operandValue o) (s.flag .c)) (· &&& ·) := by
  simp only [opOf, rlaOp, State.shiftThenLogic, State.shiftOperand_mem (ne_acc_of_notMem h), ← State.memWrite_shiftFlags]
  simp [← State.load_value, State.load_eq_memRead h]

theorem opOf_sre {o : Operand} (h : o.mode ∉ [Mode.acc, .imm]) (s : State) :
    opOf .sre o s = s.shiftThenLogic o (lsr (s.operandValue o)) (· ^^^ ·) := by
  simp only [opOf, sreOp, State.shiftThenLogic, State.shiftOperand_mem (ne_acc_of_notMem h), ← State.memWrite_shiftFlags]
  simp [← State.load_value, State.load_eq_memRead h]

theorem State.flag_c_shiftOperand {o : Operand} (h : o.mode ≠ .acc) (q : ShiftResult) (s : State) :
    (s.shiftOperand o q).flag .c = q.out := by
  simp [State.shiftOperand_mem h]

theorem State.flag_c_shiftThenLogic {o : Operand} (h : o.mode ≠ .acc) (q : ShiftResult) (g : Byte → Byte → Byte) (s : State) :
    (s.shiftThenLogic o q g).flag .c = q.out := by
  simp [State.shiftThenLogic, State.flag_c_shiftOperand h]

/-- `SetZN` writes a register only, P. -/
theorem RegistersOnly.setZN {s t : State} (h : RegistersOnly s t) (v : Byte) : RegistersOnly s (t.setZN v) := by
  unfold RegistersOnly
  rw [h]
  rfl

/-- The frame of a shift in memory that goes on to A: that of the shift, with A written too. -/
theorem State.modifying_shiftThenLogic {o : Operand} (himp : o.mode ≠ .imp) (hacc : o.mode ≠ .acc) (q : ShiftResult)
    (g : Byte → Byte → Byte) {s : State} (hwf : Memory.wf s.mem = true) :
    Modifying [.a] [.c, .z, .n] o q.r s (s.shiftThenLogic o q g) := by
  rw [State.shiftThenLogic, State.shiftOperand_mem hacc]
  exact (State.modifying_resolve_load_memWrite himp _ hwf).after
    (.trans (.shiftFlags q _) (.trans (.setA _ _) (.setZN _ _))) (.setZN (by exact rfl) _) (State.constant_setZN _ _)

/-- The forms of an identity that shifts its operand by `f`, which takes the old C, and combines A by `g` with the result,
where `f` gives the number `r` and the carry `out`. -/
theorem onForms_shiftThenLogic {forms : List (Byte × Mode)} {m : Mnemonic} {f : Byte → Bool → ShiftResult}
    {g : Byte → Byte → Byte} {r : Byte → Bool → Nat} {out : Byte → Bool} (hf : FormsOf m forms)
    (hk : ∀ q ∈ forms, q.2 ≠ .imp ∧ q.2 ∉ [.acc, .imm])
    (hop : ∀ {o : Operand}, o.mode ∉ [Mode.acc, .imm] → ∀ s,
      opOf m o s = s.shiftThenLogic o (f (s.operandValue o) (s.flag .c)) g)
    (hspec : ∀ v c, (f v c).r.toNat = r v c ∧ (f v c).out = out v) :
    OnForms forms fun i => ∀ s : State, Memory.wf s.mem = true →
      ∃ t b, exec i s = .next t ∧
        (b.toNat = r (s.operandValue i.operand) (s.flag .c) ∧ t.flag .c = out (s.operandValue i.operand)) ∧
        t.a = g s.a b ∧ ZNof t.a t ∧ Modifying [.a] [.c, .z, .n] i.operand b s t := by
  refine onForms_of hf fun i hi hexec s hwf => ?_
  obtain ⟨himp, hmem⟩ := forms_mode (K := fun k => k ≠ .imp ∧ k ∉ [.acc, .imm]) hk hi
  have hacc := ne_acc_of_notMem hmem
  obtain ⟨hr, hout⟩ := hspec (s.operandValue i.operand) (s.flag .c)
  exact ⟨_, _, (hexec s).trans (congrArg _ (hop hmem s)), ⟨hr, (State.flag_c_shiftThenLogic hacc _ g s).trans hout⟩, rfl,
    State.znOf_setZN _ _, State.modifying_shiftThenLogic himp hacc _ g hwf⟩

/-- Settles O49: ASL, ROL or LSR in memory, and then OR, AND or EOR of A with the byte written. -/
theorem shiftThenLogicFamilies : Obligations.ShiftThenLogicFamilies :=
  ⟨onForms_shiftThenLogic (m := .slo) (f := fun v _ => asl v) (by decide) (by decide) opOf_slo fun v _ => asl_spec v,
    onForms_shiftThenLogic (m := .rla) (f := rol) (by decide) (by decide) opOf_rla rol_spec,
    onForms_shiftThenLogic (m := .sre) (f := fun v _ => lsr v) (by decide) (by decide) opOf_sre fun v _ => lsr_spec v⟩

/-! ### RRA and ISB -/

/-- RRA is ROR in memory, which leaves the bit rotated out in C, and then `ADC_op` of the byte written. -/
theorem opOf_rra {o : Operand} (h : o.mode ∉ [Mode.acc, .imm]) (s : State) :
    opOf .rra o s =
      (s.shiftOperand o (ror (s.operandValue o) (s.flag .c))).addWithCarry (ror (s.operandValue o) (s.flag .c)).r := by
  rw [State.shiftOperand_mem (ne_acc_of_notMem h), ← State.load_value, State.load_eq_memRead h, ← State.resolve_ea,
    ← State.flag_resolve o .c s]
  rfl

/-- ISB is a write of the operand plus one, and then `SBC_op` of that byte. -/
theorem opOf_isb {o : Operand} (h : o.mode ∉ [Mode.acc, .imm]) (s : State) :
    opOf .isb o s =
      (((s.resolve o).load o).2.memWrite (s.effective o) (inc (s.operandValue o))).subWithBorrow
        (inc (s.operandValue o)) := by
  rw [← State.load_value, State.load_eq_memRead h, ← State.resolve_ea]
  rfl

/-- The environment answers no write, so a read-modify-write uses up what its reads do. -/
theorem Modifying.draws {R : List Reg} {F : List Flag} {o : Operand} {v : Byte} {s u : State} (h : Modifying R F o v s u) :
    u.draws = s.drawsAfter (s.operandReads o) := by
  obtain ⟨-, ⟨-, -, -, -, -, -, -, -, hused⟩, -, hhist⟩ := h
  obtain ⟨-, hdraws⟩ := hused.of_history hhist
  rw [hdraws]
  simp [State.drawsAfter, State.ownedReads]

/-- Where no register but A is written, and no flag but those of an arithmetic operation, that operation may follow: the
shape is that of `State.addWithCarry_frame`. -/
theorem Modifying.after_arith {F : List Flag} {o : Operand} {v : Byte} {s u t : State} (h : Modifying [] F o v s u)
    (hF : ∀ f ∈ F, f ∈ [Flag.c, .z, .v, .n])
    (ht : ArithFrame u t ∧ t.mem = u.mem ∧ t.history = u.history ∧ t.answers = u.answers) :
    ArithFrame s t ∧ StoresAt (s.effective o) v s t ∧
      t.history = .write (s.effective o) v :: s.operandReads o ++ s.history := by
  obtain ⟨hpc, ⟨hreg, hflag, -, hdebt, hparams, hinputs, hopen, hcalls, hused⟩, hmem, hhist⟩ := h
  obtain ⟨hanswers, -⟩ := hused.of_history hhist
  obtain ⟨⟨hpc', hx', hy', hsp', hflag', hp', hdebt', hparams', hinputs', hopen', hcalls', -⟩, hmem', hhist', hanswers'⟩ := ht
  refine ⟨⟨hpc'.trans hpc, hx'.trans (hreg .x (by simp)), hy'.trans (hreg .y (by simp)), hsp'.trans (hreg .sp (by simp)),
    fun f hf => (hflag' f hf).trans (hflag f (mt (hF f) hf)), hp', hdebt'.trans hdebt, hparams'.trans hparams,
    hinputs'.trans hinputs, hopen'.trans hopen, hcalls'.trans hcalls, _, hhist'.trans hhist, hanswers'.trans hanswers⟩,
    ?_, hhist'.trans hhist⟩
  rw [StoresAt, hmem']
  exact hmem

/-- `ADC_op` after a read-modify-write that keeps A and D, with the C that it leaves as carry in. -/
theorem Modifying.addWithCarry_effect {F : List Flag} {o : Operand} {v : Byte} {s u : State} (h : Modifying [] F o v s u)
    (hF : .d ∉ F) (m : Byte) :
    AdcEffect m (u.flag .c) (s.drawsAfter (s.operandReads o)) s (u.addWithCarry m) := by
  have hdraws := h.draws
  obtain ⟨-, ⟨hreg, hflag, -, -, hparams, -⟩, -⟩ := h
  exact (State.addWithCarry_effect m u).congr (hreg .a (by simp)) (hflag .d hF) hparams hdraws

/-- `SBC_op`, likewise. -/
theorem Modifying.subWithBorrow_effect {F : List Flag} {o : Operand} {v : Byte} {s u : State} (h : Modifying [] F o v s u)
    (hF : .d ∉ F) (m : Byte) :
    SbcEffect m (u.flag .c) (s.drawsAfter (s.operandReads o)) s (u.subWithBorrow m) := by
  have hdraws := h.draws
  obtain ⟨-, ⟨hreg, hflag, -, -, hparams, -⟩, -⟩ := h
  exact (State.subWithBorrow_effect m u).congr (hreg .a (by simp)) (hflag .d hF) hparams hdraws

/-- Settles O50: a read-modify-write, and then `ADC_op` or `SBC_op` of the byte written with the C that it left. -/
theorem modifyThenArithmeticFamilies : Obligations.ModifyThenArithmeticFamilies := by
  refine ⟨onForms_of (m := .rra) (by decide) fun i hi hexec s hwf => ?_,
    onForms_of (m := .isb) (by decide) fun i hi hexec s hwf => ?_⟩
  all_goals
    obtain ⟨himp, hmem⟩ := forms_mode (K := fun k => k ≠ .imp ∧ k ∉ [.acc, .imm]) (by decide) hi
  · have hacc := ne_acc_of_notMem hmem
    obtain ⟨hr, hout⟩ := ror_spec (s.operandValue i.operand) (s.flag .c)
    have hshift := State.modifying_shiftOperand_mem himp hacc (ror (s.operandValue i.operand) (s.flag .c)) hwf
    have hadc := hshift.addWithCarry_effect (by decide) (ror (s.operandValue i.operand) (s.flag .c)).r
    rw [State.flag_c_shiftOperand hacc, hout] at hadc
    exact ⟨_, _, (hexec s).trans (congrArg _ (opOf_rra hmem s)), ⟨hr, hadc⟩,
      hshift.after_arith (by decide) (State.addWithCarry_frame _ _)⟩
  · have hwrite := State.modifying_resolve_load_memWrite himp (inc (s.operandValue i.operand)) hwf
    have hsbc := hwrite.subWithBorrow_effect (by decide) (inc (s.operandValue i.operand))
    rw [State.flag_memWrite, State.flag_load, State.flag_resolve] at hsbc
    exact ⟨_, _, (hexec s).trans (congrArg _ (opOf_isb hmem s)), ⟨toNat_inc _, hsbc⟩,
      hwrite.after_arith (by decide) (State.subWithBorrow_frame _ _)⟩

/-! ### DCP -/

/-- DCP is a write of the operand less one, and then `Compare` of A with that byte. -/
theorem opOf_dcp {o : Operand} (h : o.mode ∉ [Mode.acc, .imm]) (s : State) :
    opOf .dcp o s =
      (((s.resolve o).load o).2.memWrite (s.effective o) (dec (s.operandValue o))).compare s.a (dec (s.operandValue o)) := by
  rw [← State.load_value, State.load_eq_memRead h, ← State.resolve_ea, ← State.resolve_a o s]
  rfl

/-- A comparison after a read-modify-write: its three flags, and no register written (41_alu.md R177). -/
theorem Modifying.after_compare {o : Operand} {v : Byte} {s u : State} (h : Modifying [] [] o v s u) (r m : Byte) :
    ((u.compare r m).flag .c = true ↔ m.toNat ≤ r.toNat) ∧ ((u.compare r m).flag .z = true ↔ r = m) ∧
      (u.compare r m).flag .n = (r - m).getLsbD 7 ∧ Modifying [] [.c, .z, .n] o v s (u.compare r m) :=
  ⟨by simp, (by simp : _ ↔ r - m = 0).trans sub_eq_zero, by simp, h.after (.compare r m u) rfl (State.constant_compare r m u)⟩

/-- Settles O51: a read-modify-write of the operand less one, and then `Compare`. -/
theorem dcpDecrementsThenCompares : Obligations.DcpDecrementsThenCompares := by
  refine onForms_of (m := .dcp) (by decide) fun i hi hexec s hwf => ?_
  obtain ⟨himp, hmem⟩ := forms_mode (K := fun k => k ≠ .imp ∧ k ∉ [.acc, .imm]) (by decide) hi
  exact ⟨_, _, (hexec s).trans (congrArg _ (opOf_dcp hmem s)), toNat_dec _,
    (State.modifying_resolve_load_memWrite himp _ hwf).after_compare _ _⟩

/-! ### The refused bytes -/

/-- An instruction that is not admitted refuses its byte, at the address PC less its length. -/
theorem exec_refused {i : Instr} {s : State} (h : i.admitted s.params = false) :
    exec i s = s.refuse i.opcode i.length := by
  rw [exec_eq, h]
  rfl

/-- The forms of tier T4 refuse, whatever the operand and the state. -/
theorem onFormsT4_refused {forms : List (Byte × Mode)}
    (hf : ∀ f ∈ forms, (instrOf f.1 0 0).operand.mode = f.2 ∧ (instrOf f.1 0 0).tier = .t4) :
    OnForms forms fun i => ∀ s : State, exec i s = s.refuse i.opcode i.length := by
  intro f hmem i hi
  obtain ⟨hk, ht⟩ := hf f hmem
  obtain ⟨-, hmode, htier⟩ := of_opcode hi
  refine ⟨hmode.trans hk, fun s => exec_refused ?_⟩
  rw [Instr.admitted, htier, ht]

/-- Settles O52: the listed bytes are of tier T4, which is never admitted. -/
theorem refusedBytesRefuse : Obligations.RefusedBytesRefuse :=
  onFormsT4_refused (by decide)

/-- The bytes that are not admitted, by the lists of R106. -/
theorem admitted_eq_false_iff (q : Params) (i : Instr) :
    i.admitted q = false ↔ i.opcode ∈ bytesT4 ∨ (i.opcode ∈ bytesT3 ∧ q.admitT3 = false) := by
  obtain ⟨-, h3, h4, -⟩ := tiersFollowTheByteLists.1 i
  rw [← h3, ← h4]
  cases ht : i.tier <;> simp [Instr.admitted, ht]

theorem State.params_fetch (s : State) : s.fetch.2.params = s.params := by
  rw [State.fetch_state]
  exact State.afterReads_params _ s

/-- The fetched instruction is one that is not admitted exactly at a refused byte. -/
theorem State.fetch_admitted_iff (s : State) :
    s.fetch.1.admitted s.fetch.2.params = false ↔ s.atRefusedByte := by
  rw [admitted_eq_false_iff, State.opcode_fetch, State.params_fetch]
  rfl

/-- A refusal after the fetch names the opcode byte and the address it was fetched from. -/
theorem State.refuse_fetch (s : State) :
    s.fetch.2.refuse s.fetch.1.opcode s.fetch.1.length = .refused (.unmodelledOpcode (s.peekValue s.pc) s.pc) := by
  have hpc : s.fetch.2.pc - BitVec.ofNat 16 s.fetch.1.length = s.pc := by
    rw [State.fetch_state, State.afterFetch_pc, BitVec.add_sub_cancel]
  rw [State.refuse, hpc, State.opcode_fetch]

/-- Settles O7: the core's step executes the fetched instruction, which completes exactly where it is admitted. -/
theorem stepEndsOnlyAtRefusedBytes : Obligations.StepEndsOnlyAtRefusedBytes := by
  intro s hidle
  rw [step_idle hidle, coreStep, ← State.fetch_admitted_iff]
  refine ⟨fun h => ?_, fun h => ?_⟩
  · rw [exec_refused h, State.refuse_fetch]
    rfl
  · rw [exec_eq, if_pos (Bool.eq_true_of_not_eq_false h)]
    exact ⟨_, rfl⟩

end Sys2Proof.Machine

namespace Sys2Proof.Machine

/-! ## Operations that do not fire the trap hook (60_exceptions.md R440) -/

/-- The hook did not fire from `s` to `t`: the history holds the same calls of it, and the callbacks, open or to come, and the
schedule are as they were. -/
def NoHookCall (s t : State) : Prop :=
  hookCalls t.history = hookCalls s.history ∧ t.callbacks = s.callbacks ∧ t.openCallbacks = s.openCallbacks ∧
    t.inputs = s.inputs

namespace NoHookCall

theorem trans {s t u : State} (h : NoHookCall s t) (h' : NoHookCall t u) : NoHookCall s u := by
  obtain ⟨hhooks, hcalls, hopen, hinputs⟩ := h
  obtain ⟨hhooks', hcalls', hopen', hinputs'⟩ := h'
  exact ⟨hhooks'.trans hhooks, hcalls'.trans hcalls, hopen'.trans hopen, hinputs'.trans hinputs⟩

theorem refl (s : State) : NoHookCall s s := ⟨rfl, rfl, rfl, rfl⟩

/-! ### Primitive updates -/

theorem setA (v : Byte) (s : State) : NoHookCall s (s.setA v) := ⟨rfl, rfl, rfl, rfl⟩
theorem setX (v : Byte) (s : State) : NoHookCall s (s.setX v) := ⟨rfl, rfl, rfl, rfl⟩
theorem setY (v : Byte) (s : State) : NoHookCall s (s.setY v) := ⟨rfl, rfl, rfl, rfl⟩
theorem setSp (v : Byte) (s : State) : NoHookCall s (s.setSp v) := ⟨rfl, rfl, rfl, rfl⟩
theorem setPc (v : Word) (s : State) : NoHookCall s (s.setPc v) := ⟨rfl, rfl, rfl, rfl⟩
theorem writeP (v : Byte) (s : State) : NoHookCall s (s.writeP v) := ⟨rfl, rfl, rfl, rfl⟩
theorem settle (s : State) : NoHookCall s s.settle := ⟨rfl, rfl, rfl, rfl⟩
theorem read (a : Word) (s : State) : NoHookCall s (s.afterRead a) := ⟨rfl, rfl, rfl, rfl⟩
theorem write (a : Word) (v : Byte) (s : State) : NoHookCall s (s.memWrite a v) := ⟨rfl, rfl, rfl, rfl⟩

/-! ### Shared operations -/

theorem reads (l : List Word) (s : State) : NoHookCall s (s.afterReads l) := by
  induction l generalizing s with
  | nil => exact .refl s
  | cons a l ih => exact .trans (.read a s) (ih _)

theorem afterFetch (n : Nat) (s : State) : NoHookCall s (s.afterFetch n) := .trans (.reads _ s) ⟨rfl, rfl, rfl, rfl⟩

theorem setFlag (f : Flag) (b : Bool) (s : State) : NoHookCall s (s.setFlag f b) := .writeP _ s

theorem setZN (r : Byte) (s : State) : NoHookCall s (s.setZN r) := .trans (.setFlag _ _ s) (.setFlag _ _ _)

theorem compare (reg m : Byte) (s : State) : NoHookCall s (s.compare reg m) := .trans (.setFlag _ _ s) (.setZN _ _)

theorem shiftFlags (q : ShiftResult) (s : State) : NoHookCall s (s.shiftFlags q) := .trans (.setFlag _ _ s) (.setZN _ _)

theorem push (v : Byte) (s : State) : NoHookCall s (s.push v) := .trans (.write _ v s) (.setSp _ _)

theorem push16 (w : Word) (s : State) : NoHookCall s (s.push16 w) := .trans (.push _ s) (.push _ _)

theorem pull (s : State) : NoHookCall s s.pull.2 := .trans (.setSp _ s) (.read _ _)

theorem pull16 (s : State) : NoHookCall s s.pull16.2 := .trans (.pull s) (.pull _)

theorem enterHandler (ret : Word) (pushed : Byte) (v : Word) (s : State) : NoHookCall s (s.enterHandler ret pushed v) := by
  unfold State.enterHandler
  exact .trans (.trans (.trans (.trans (.push16 ret s) (.push pushed _)) (.setFlag .i true _))
    (.trans (.read v _) (.read _ _))) (.setPc _ _)

theorem returnFromHandler (s : State) : NoHookCall s s.returnFromHandler :=
  .trans (.trans (.trans (.pull s) (.writeP _ _)) (.pull16 _)) (.setPc _ _)

theorem readPointer (o : Operand) (s : State) : NoHookCall s (s.readPointer o) := by
  unfold State.readPointer
  split
  · exact .trans (.read _ s) (.read _ _)
  · exact .refl s

theorem resolve (o : Operand) (s : State) : NoHookCall s (s.resolve o) := .trans (.readPointer o s) ⟨rfl, rfl, rfl, rfl⟩

theorem load (o : Operand) (s : State) : NoHookCall s (s.load o).2 := by
  cases o <;> exact ⟨rfl, rfl, rfl, rfl⟩

theorem store (o : Operand) (v : Byte) (s : State) : NoHookCall s (s.store o v) := by
  cases o <;> exact ⟨rfl, rfl, rfl, rfl⟩

theorem resolveLoad (o : Operand) (s : State) : NoHookCall s ((s.resolve o).load o).2 := .trans (.resolve o s) (.load o _)

theorem resolveRead (o : Operand) (a : Word) (s : State) : NoHookCall s ((s.resolve o).afterRead a) :=
  .trans (.resolve o s) (.read a _)

/-- An addition or subtraction makes no access. -/
theorem of_arithFrame {s t : State} (h : ArithFrame s t) (hh : t.history = s.history) : NoHookCall s t := by
  obtain ⟨-, -, -, -, -, -, -, -, hinputs, hopen, hcalls, -⟩ := h
  exact ⟨congrArg hookCalls hh, hcalls, hopen, hinputs⟩

theorem addWithCarry (m : Byte) (s : State) : NoHookCall s (s.addWithCarry m) := by
  obtain ⟨hframe, -, hhist, -⟩ := s.addWithCarry_frame m
  exact .of_arithFrame hframe hhist

theorem subWithBorrow (m : Byte) (s : State) : NoHookCall s (s.subWithBorrow m) := by
  obtain ⟨hframe, -, hhist, -⟩ := s.subWithBorrow_frame m
  exact .of_arithFrame hframe hhist

theorem branchOn (c : Bool) (o : Operand) (s : State) : NoHookCall s (branchOn c o s) := by
  cases c
  · exact .resolve o s
  · exact .trans (.resolve o s) (.setPc _ _)

/-- No operation but those of JMP and JSR fires the hook. -/
theorem opOf {m : Mnemonic} (o : Operand) (s : State) (hjmp : m ≠ .jmp) (hjsr : m ≠ .jsr) : NoHookCall s (opOf m o s) := by
  cases m
  case jmp => exact absurd rfl hjmp
  case jsr => exact absurd rfl hjsr
  case lda | and | ora | eor => exact .trans (.resolveLoad o s) (.trans (.setA _ _) (.setZN _ _))
  case ldx => exact .trans (.resolveLoad o s) (.trans (.setX _ _) (.setZN _ _))
  case ldy => exact .trans (.resolveLoad o s) (.trans (.setY _ _) (.setZN _ _))
  case sta | stx | sty | sax => exact .trans (.resolve o s) (.write _ _ _)
  case txa | tya => exact .trans (.setA _ s) (.setZN _ _)
  case tax | tsx | inx | dex => exact .trans (.setX _ s) (.setZN _ _)
  case tay | iny | dey => exact .trans (.setY _ s) (.setZN _ _)
  case txs => exact .setSp _ s
  case adc => exact .trans (.resolveLoad o s) (.addWithCarry _ _)
  case sbc => exact .trans (.resolveLoad o s) (.subWithBorrow _ _)
  case cmp | cpx | cpy => exact .trans (.resolveLoad o s) (.compare _ _ _)
  case bit => exact .trans (.resolveLoad o s) (.trans (.trans (.setFlag .z _ _) (.setFlag .v _ _)) (.setFlag .n _ _))
  case inc | dec => exact .trans (.resolveRead o _ s) (.trans (.write _ _ _) (.setZN _ _))
  case asl | lsr | rol | ror => exact .trans (.resolveLoad o s) (.trans (.shiftFlags _ _) (.store o _ _))
  case bpl | bmi | bvc | bvs | bcc | bcs | bne | beq => exact .branchOn _ o s
  case rts => exact .trans (.pull16 s) (.setPc _ _)
  case pha | php => exact .push _ s
  case pla => exact .trans (.pull s) (.trans (.setA _ _) (.setZN _ _))
  case plp => exact .trans (.pull s) (.writeP _ _)
  case clc | sec | cli | sei | cld | sed | clv => exact .setFlag _ _ s
  case nop =>
    cases o
    case imp => exact .refl s
    all_goals exact .resolveLoad _ s
  case brk => exact .enterHandler _ _ _ s
  case rti => exact .returnFromHandler s
  case slo | rla | sre =>
    exact .trans (.resolveRead o _ s) (.trans (.shiftFlags _ _) (.trans (.write _ _ _) (.trans (.setA _ _) (.setZN _ _))))
  case rra => exact .trans (.resolveRead o _ s) (.trans (.shiftFlags _ _) (.trans (.write _ _ _) (.addWithCarry _ _)))
  case lax => exact .trans (.resolveRead o _ s) (.trans (.trans (.setA _ _) (.setX _ _)) (.setZN _ _))
  case dcp => exact .trans (.resolveRead o _ s) (.trans (.write _ _ _) (.compare _ _ _))
  case isb => exact .trans (.resolveRead o _ s) (.trans (.write _ _ _) (.subWithBorrow _ _))
  -- The byte is refused.
  all_goals exact .refl s

theorem irq (s : State) : NoHookCall s s.irq := by
  unfold State.irq
  split_ifs
  · exact .refl s
  · exact .enterHandler _ _ _ s

theorem hostReset (s : State) : NoHookCall s s.hostReset := .trans (.reads [0xFFFC, 0xFFFD] s) ⟨rfl, rfl, rfl, rfl⟩

end NoHookCall

/-- Settles O33: exec is the operation of the instruction's identity. -/
theorem onlyJumpsFireTheHook : Obligations.OnlyJumpsFireTheHook := by
  intro i s t hjmp hjsr h
  obtain ⟨-, rfl⟩ := exec_next h
  exact NoHookCall.opOf i.operand s hjmp hjsr

end Sys2Proof.Machine

namespace Sys2Proof.Machine

/-! ## Calls of the environment that enter no handler (60_exceptions.md R440, R442, 70_reset_and_hazards.md R470 to R476) -/

/-- Settles O46: the step is that of the call which is due, and where nothing is due it is the core's. -/
theorem hostCallsRunOneInstructionOrNone : Obligations.HostCallsRunOneInstructionOrNone := by
  refine fun s u => ⟨step_due, step_due, step_idle, fun h => ?_⟩
  obtain ⟨is, os, rfl⟩ := h.rest
  exact step_due h

/-- Settles O58: the step of an open callback whose next call is a register write. -/
theorem hostWritesOneRegister : Obligations.HostWritesOneRegister :=
  fun _ _ _ _ _ _ ho => ⟨step_write ho, step_write ho, step_write ho, step_write ho, step_write ho, step_write ho⟩

/-- Settles O2: `reset()` reads the vector, low byte first, and then writes registers, latches and `debt`. -/
theorem resetCallLoadsVector : Obligations.ResetCallLoadsVector := by
  intro s u h
  obtain ⟨is, os, rfl⟩ := h.rest
  obtain ⟨hanswers, hdraws⟩ := (AnswersUsed.reads [0xFFFC, 0xFFFD] s).of_history (State.afterReads_history _ s)
  exact ⟨_, step_due h, rfl, rfl, rfl, rfl, rfl, rfl, rfl, rfl, rfl, rfl, rfl, hanswers, congrArg (· + 1) hdraws, rfl, rfl, rfl,
    rfl, rfl⟩

/-- The addresses of the table after `setpatch`: the old ones, and the new one if there was room. -/
theorem mem_addTrap (t u : Word) (l : List Word) : u ∈ addTrap t l ↔ u ∈ l ∨ (u = t ∧ l.length < trapCapacity) := by
  unfold addTrap
  split_ifs with hroom
  · rw [mem_insertTrap, or_comm, and_iff_left hroom]
  · simp [hroom]

/-- Settles O47: the new table is `addTrap` of the old one, and nothing else is written. -/
theorem setpatchKeepsASortedTable : Obligations.SetpatchKeepsASortedTable := by
  intro s u a h hwf
  obtain ⟨is, os, rfl⟩ := h.rest
  exact ⟨_, step_due h, wf_addTrap a hwf, fun w => mem_addTrap a w s.params.traps, rfl⟩

end Sys2Proof.Machine

namespace Sys2Proof.Machine

/-! ## Interrupts and the return from a handler (60_exceptions.md R423 to R431) -/

/-- An interrupt's entry through a vector outside page 1, with the pushed copy of P as the spec writes it (60_exceptions.md
R425). -/
theorem State.enterHandler_interrupt {v : Word} {s : State} (hwf : Memory.wf s.mem = true)
    (h0 : v.toNat < 256 ∨ 512 ≤ v.toNat) (h1 : (v + 1).toNat < 256 ∨ 512 ≤ (v + 1).toNat) :
    HandlerEntered s.pc ((s.p ||| 0x20) &&& 0xEF) v s (s.enterHandler s.pc s.pushedByInterrupt v) :=
  State.enterHandler_entered s.pc s.pushedByInterrupt v hwf h0 h1

/-- An outcome has one next state. -/
theorem of_exists_next {o : Outcome} {t : State} {P : State → Prop} (h : ∃ u, o = .next u ∧ P u) (ht : o = .next t) :
    P t := by
  obtain ⟨u, hu, hP⟩ := h
  cases hu.symm.trans ht
  exact hP

/-- Settles O42: the flag I chooses between no effect and the shared entry. -/
theorem irqIsMaskedByI : Obligations.IrqIsMaskedByI := by
  intro s u h
  have hstep : step s = .next u.irq := step_due h
  obtain ⟨is, os, rfl⟩ := h.rest
  refine ⟨fun hi => hstep.trans (congrArg _ (if_pos hi)), fun hi hwf => ⟨_, hstep.trans (congrArg _ (if_neg ?_)), ?_⟩⟩
  · exact ne_true_of_eq_false hi
  · exact State.enterHandler_interrupt hwf (by decide) (by decide)

/-- Settles O43: the shared entry, whatever I is. -/
theorem nmiIsAlwaysTaken : Obligations.NmiIsAlwaysTaken := by
  intro s u h hwf
  have hstep : step s = .next u.nmi := step_due h
  obtain ⟨is, os, rfl⟩ := h.rest
  exact ⟨_, hstep, State.enterHandler_interrupt hwf (by decide) (by decide)⟩

/-- Every primitive update keeps memory canonical, so all that is made of them does. -/
theorem Evolves.wf_mem {s t : State} (h : Evolves s t) (hs : Memory.wf s.mem = true) : Memory.wf t.mem = true := by
  induction h with
  | data _ hm _ _ _ => exact hm ▸ hs
  | callbacks _ | writeP _ _ | read _ _ | hostRead _ _ | hook _ | setpatch _ _ => exact hs
  | write a v s | hostWrite a v s => exact State.wf_pokeMem a v hs
  | trans _ _ ih ih' => exact ih' (ih hs)

/-- Settles O44: an entry sets I, which masks the `irq()` after it and not the `nmi()`. -/
theorem orderOfSimultaneousInterrupts : Obligations.OrderOfSimultaneousInterrupts := by
  refine fun s u hwf => ⟨fun h => ?_, fun h hi => ?_⟩
  · obtain ⟨t, hstep, hentered⟩ := nmiIsAlwaysTaken s u h hwf
    refine ⟨t, hstep, hentered, fun v hv => ?_⟩
    obtain ⟨-, -, -, -, -, -, hmasked, -⟩ := hentered
    exact (irqIsMaskedByI t v hv).1 hmasked
  · obtain ⟨t, hstep, hentered⟩ := (irqIsMaskedByI s u h).2 hi hwf
    exact ⟨t, hstep, hentered, fun v hv => nmiIsAlwaysTaken t v hv ((Evolves.step hstep).wf_mem hwf)⟩

/-- RTI where the three bytes above SP are plain RAM and hold the byte `p` and the word `ret`. -/
theorem rtiOp_of_stack {p : Byte} {ret : Word} {s : State}
    (hownP : s.envOwns (stackAddr (s.sp + 1)) = false) (hownLo : s.envOwns (stackAddr (s.sp + 2)) = false)
    (hownHi : s.envOwns (stackAddr (s.sp + 3)) = false) (hp : s.mem.read (stackAddr (s.sp + 1)) = p)
    (hlo : s.mem.read (stackAddr (s.sp + 2)) = lo8 ret) (hhi : s.mem.read (stackAddr (s.sp + 3)) = hi8 ret) :
    (rtiOp s).pc = ret ∧ (rtiOp s).sp = s.sp + 3 ∧ (rtiOp s).p = p ||| constantBit := by
  rw [rtiOp_eq, State.peekValue_ram (s := (s.afterRead _).afterRead _) hownHi, State.peekValue_ram (s := s.afterRead _) hownLo,
    State.peekValue_ram hownP, State.afterRead_mem, State.afterRead_mem, hp, hlo, hhi, word_hi8_lo8]
  exact ⟨rfl, rfl, rfl⟩

/-- What an entry has pushed for P: every flag but B as it was, and `b` for B (60_exceptions.md R425). -/
def PushedFlags (b : Bool) (pushed : Byte) (s : State) : Prop :=
  ∀ f : Flag, pushed.getLsbD f.bit = if f = .b then b else s.flag f

theorem State.pushedFlags_interrupt (s : State) : PushedFlags false s.pushedByInterrupt s := by
  intro f
  rw [State.getLsbD_pushedByInterrupt, if_neg f.bit_ne_five]
  cases f <;> rfl

theorem State.pushedFlags_instruction (s : State) : PushedFlags true s.pushedByInstruction s := by
  intro f
  rw [State.getLsbD_pushedByInstruction]
  cases f <;> rfl

/-- RTI in a handler that kept its three stack bytes, from the state `u` that the entry left from. -/
theorem rtiOp_of_entered {ret vec : Word} {pushed : Byte} {u t h : State} (hentered : HandlerEntered ret pushed vec u t)
    (h0 : u.envOwns (stackAddr u.sp) = false) (h1 : u.envOwns (stackAddr (u.sp - 1)) = false)
    (h2 : u.envOwns (stackAddr (u.sp - 2)) = false) (henv : h.params.memEnv = u.params.memEnv) (hsp : h.sp = t.sp)
    (hm0 : h.mem.read (stackAddr u.sp) = t.mem.read (stackAddr u.sp))
    (hm1 : h.mem.read (stackAddr (u.sp - 1)) = t.mem.read (stackAddr (u.sp - 1)))
    (hm2 : h.mem.read (stackAddr (u.sp - 2)) = t.mem.read (stackAddr (u.sp - 2))) :
    (rtiOp h).pc = ret ∧ (rtiOp h).sp = u.sp ∧ (rtiOp h).p = pushed ||| constantBit := by
  obtain ⟨htsp, hhi, hlo, hp, -⟩ := hentered
  have hsp1 : h.sp + 1 = u.sp - 2 := by rw [hsp, htsp]; bv_omega
  have hsp2 : h.sp + 2 = u.sp - 1 := by rw [hsp, htsp]; bv_omega
  have hsp3 : h.sp + 3 = u.sp := by rw [hsp, htsp, BitVec.sub_add_cancel]
  have hrti := rtiOp_of_stack (p := pushed) (ret := ret) (s := h)
    (by rw [hsp1, State.envOwns_congr henv, h2]) (by rw [hsp2, State.envOwns_congr henv, h1])
    (by rw [hsp3, State.envOwns_congr henv, h0]) (by rw [hsp1, hm2, hp h2]) (by rw [hsp2, hm1, hlo h1])
    (by rw [hsp3, hm0, hhi h0])
  rwa [hsp3] at hrti

/-- From `s`, but for the call that is used up, a handler is entered in `t`: `ret` and the flags with `b` for B are pushed. -/
def Enters (ret : Word) (b : Bool) (s t : State) : Prop :=
  ∃ is os pushed vec, PushedFlags b pushed s ∧
    HandlerEntered ret pushed vec { s with inputs := is, openCallbacks := os } t

theorem Enters.of_interrupt {c : HostCall} {vec : Word} {s u t : State} (h : Due c s u)
    (hentered : HandlerEntered s.pc ((s.p ||| 0x20) &&& 0xEF) vec u t) : Enters s.pc false s t := by
  obtain ⟨is, os, rfl⟩ := h.rest
  exact ⟨is, os, _, vec, s.pushedFlags_interrupt, hentered⟩

theorem Enters.of_brk {s t : State} (hwf : Memory.wf s.mem = true) (h : exec .brk s = .next t) : Enters (s.pc + 1) true s t := by
  cases h
  exact ⟨s.inputs, s.openCallbacks, _, _, s.pushedFlags_instruction,
    State.enterHandler_entered (s.pc + 1) s.pushedByInstruction irqVector hwf (by decide) (by decide)⟩

/-- Settles O45: RTI pulls the three bytes that the entry pushed, and P takes every flag from the first of them. -/
theorem rtiResumesTheInterruptedCode : Obligations.RtiResumesTheInterruptedCode := by
  intro s t u ret b hwf h0 h1 h2 hway h henv hsp hm0 hm1 hm2
  have henters : Enters ret b s t := by
    rcases hway with ⟨hdue, hi, hstep, rfl, rfl⟩ | ⟨hdue, hstep, rfl, rfl⟩ | ⟨hexec, rfl, rfl⟩
    · exact .of_interrupt hdue (of_exists_next ((irqIsMaskedByI s u hdue).2 hi hwf) hstep)
    · exact .of_interrupt hdue (of_exists_next (nmiIsAlwaysTaken s u hdue hwf) hstep)
    · exact .of_brk hwf hexec
  obtain ⟨is, os, pushed, vec, hflags, hentered⟩ := henters
  obtain ⟨hpc, hsp', hp⟩ := rtiOp_of_entered hentered h0 h1 h2 henv hsp hm0 hm1 hm2
  have hflag (f : Flag) : (rtiOp h).flag f = if f = .b then b else s.flag f := by
    rw [← hflags f, ← State.flag_writeP pushed f h, State.flag, hp]
    rfl
  refine ⟨rtiOp h, rfl, hpc, hsp', fun f hf => (hflag f).trans (if_neg hf), hflag .b, ?_⟩
  rw [hp]
  exact State.constant_writeP pushed h

end Sys2Proof.Machine

namespace Sys2Proof.Machine

/-! ## The trap hook (45_control.md R310 to R312, 60_exceptions.md R432, R434, R440, R441) -/

/-- Settles O56: the outcome, and with FallThrough the push that is due, choose among the three returns. -/
theorem trapReturnEndsTheTransfer : Obligations.TrapReturnEndsTheTransfer := by
  intro s o os ho hc
  have hstep := step_return ho hc
  rcases o with ⟨target, push, calls, outcome⟩
  refine ⟨fun hout => ?_, fun hout hpush => ?_, fun ret hout hpush hwf => ?_⟩
  · cases hout
    exact ⟨_, hstep, rfl⟩
  · cases hout
    cases hpush
    exact ⟨_, hstep, rfl⟩
  · cases hout
    cases hpush
    exact ⟨_, _, hstep, State.push16_pushed ret hwf, rfl⟩

/-! ### A callback that only falls through -/

/-- The hook opens the scripted callback that is next. -/
theorem State.openHook_scripted (w : Word) (q : Option Word) {s : State} {e : TrapEffect} {cs : List TrapEffect}
    (h : s.callbacks = e :: cs) :
    (s.openHook w q).openCallbacks =
      { target := w, push := q, calls := e.calls, outcome := e.outcome } :: s.openCallbacks := by
  rw [State.openHook_openCallbacks, State.nextTrap, h, List.headD_cons]

theorem State.afterFetch_mem (n : Nat) (s : State) : (s.afterFetch n).mem = s.mem := State.afterReads_mem _ s

theorem State.afterFetch_params (n : Nat) (s : State) : (s.afterFetch n).params = s.params := State.afterReads_params _ s

/-- JMP to a trap address opens the hook after Resolve. -/
theorem exec_jmp_trapped {i : Instr} {s : State} (hi : i.mnemonic = .jmp) (htrap : s.effective i.operand ∈ s.params.traps) :
    exec i s = .next ((s.resolve i.operand).openHook (s.effective i.operand) none) := by
  have hexec : exec i s = .next (opOf .jmp i.operand s) := by
    cases i
    case jmpAbs | jmpInd => rfl
    all_goals cases hi
  rw [hexec, opOf_jmp, State.trapTransfer, State.resolve_params, if_pos htrap]

theorem State.afterFetch_frame (n : Nat) (s : State) : Frame [] [] s (s.afterFetch n) := by
  obtain ⟨hreg, hflag, hp, hrest⟩ := State.afterReads_frame (s.fetchAddresses n) s
  exact ⟨hreg, hflag, hp, hrest⟩

/-- A callback that JMP opens, makes no call and falls through returns in the next step: PC is its target, and A, X, Y, SP, P,
memory, the parameters and the schedule are as before the hook. -/
theorem step_openHook_fallThrough (w : Word) {s : State} {cs : List TrapEffect}
    (h : s.callbacks = { calls := [], outcome := .fallThrough } :: cs) :
    ∃ u, step (s.openHook w none).settle = .next u ∧ u.pc = w ∧ u.callbacks = cs ∧ u.openCallbacks = s.openCallbacks ∧
      u.inputs = s.inputs ∧ hookCalls u.history = w :: hookCalls s.history ∧ (∀ r, u.reg r = s.reg r) ∧ u.p = s.p ∧
      u.mem = s.mem ∧ u.params = s.params :=
  ⟨_, step_return (s := (s.openHook w none).settle) (State.openHook_scripted w none h) rfl, rfl, congrArg List.tail h, rfl, rfl,
    rfl, fun r => by cases r <;> rfl, rfl, rfl, rfl⟩

/-- Settles O57: the JMP opens the hook after the fetch and Resolve, which keep all but PC, latches, history and answers. -/
theorem callbackThatOnlyFallsThrough : Obligations.CallbackThatOnlyFallsThrough := by
  intro s i cs hidle hi hdecode htrap hcallbacks
  obtain ⟨-, hresolve, -⟩ := State.resolve_resolved i.operand (s.afterFetch i.length)
  obtain ⟨hreg, -, hp, -, hparams, hinputs, hopen, hcalls, -⟩ := (State.afterFetch_frame _ s).after hresolve
  obtain ⟨hhooks, -⟩ := (NoHookCall.afterFetch i.length s).trans (.resolve i.operand _)
  have hmem := (State.resolve_mem i.operand (s.afterFetch i.length)).trans (State.afterFetch_mem i.length s)
  have hexec := exec_jmp_trapped (s := s.afterFetch i.length) hi (by rwa [State.afterFetch_params])
  obtain ⟨t, hstep, hboundary⟩ := (stepRunsTheDecodedInstruction s i hidle hdecode).1 _ hexec
  obtain rfl : t = State.settle _ := hboundary
  obtain ⟨u, hstep', hpc, hcalls', hopen', hinputs', hhooks', hreg', hp', hmem', hparams'⟩ :=
    step_openHook_fallThrough ((s.afterFetch i.length).effective i.operand) (hcalls.trans hcallbacks)
  refine ⟨_, u, hstep, hstep', hpc, hcalls', ⟨?_, ?_⟩, ?_, fun r => ?_, hp'.trans hp, hmem'.trans hmem,
    hparams'.trans hparams⟩
  · rw [hopen', hopen, hidle.1]
  · rw [hinputs', hinputs, hidle.2]
  · rw [hhooks', hhooks, hpc]
  · rw [hreg', hreg r List.not_mem_nil]

/-! ### Control goes elsewhere through the hook only -/

theorem State.push16_params (w : Word) (s : State) : (s.push16 w).params = s.params := rfl

/-- From `s` to `t` no callback opened but by the hook: it did not fire, or it fired once, at a trap address, and its callback
stands open in front of the others. -/
def OpensByHook (s t : State) : Prop :=
  (t.openCallbacks = s.openCallbacks ∧ hookCalls t.history = hookCalls s.history) ∨
    ∃ o, t.openCallbacks = o :: s.openCallbacks ∧ o.target ∈ s.params.traps ∧
      hookCalls t.history = o.target :: hookCalls s.history

namespace OpensByHook

theorem of_noHookCall {s t : State} (h : NoHookCall s t) : OpensByHook s t := by
  obtain ⟨hhooks, -, hopen, -⟩ := h
  exact .inl ⟨hopen, hhooks⟩

theorem after {s u t : State} (h : NoHookCall s u) (hq : u.params = s.params) (h' : OpensByHook u t) : OpensByHook s t := by
  obtain ⟨hhooks, -, hopen, -⟩ := h
  rcases h' with ⟨hopen', hhooks'⟩ | ⟨o, hopen', htarget, hhooks'⟩
  · exact .inl ⟨hopen'.trans hopen, hhooks'.trans hhooks⟩
  · exact .inr ⟨o, hopen ▸ hopen', hq ▸ htarget, hhooks ▸ hhooks'⟩

theorem followed {s u t : State} (h : OpensByHook s u) (h' : NoHookCall u t) : OpensByHook s t := by
  obtain ⟨hhooks', -, hopen', -⟩ := h'
  rcases h with ⟨hopen, hhooks⟩ | ⟨o, hopen, htarget, hhooks⟩
  · exact .inl ⟨hopen'.trans hopen, hhooks'.trans hhooks⟩
  · exact .inr ⟨o, hopen'.trans hopen, htarget, hhooks'.trans hhooks⟩

theorem openHook {w : Word} (q : Option Word) {s : State} (h : w ∈ s.params.traps) : OpensByHook s (s.openHook w q) :=
  .inr ⟨_, rfl, h, rfl⟩

theorem trapTransfer (w : Word) (s : State) : OpensByHook s (s.trapTransfer w) := by
  unfold State.trapTransfer
  split_ifs with h
  · exact .openHook none h
  · exact .of_noHookCall (.setPc w s)

theorem jsrOp (o : Operand) (s : State) : OpensByHook s (jsrOp o s) := by
  refine .after (.resolve o s) (State.resolve_params o s) ?_
  unfold Machine.jsrOp
  simp only
  split_ifs with h
  · exact .openHook _ h.2
  · exact .after (.push16 _ _) (State.push16_params _ _) (.trapTransfer _ _)

theorem opOf (m : Mnemonic) (o : Operand) (s : State) : OpensByHook s (opOf m o s) := by
  by_cases hjmp : m = .jmp
  · subst hjmp
    exact .after (.resolve o s) (State.resolve_params o s) (.trapTransfer _ _)
  by_cases hjsr : m = .jsr
  · subst hjsr
    exact .jsrOp o s
  exact .of_noHookCall (.opOf o s hjmp hjsr)

theorem coreStep {s t : State} (h : coreStep s = .next t) : OpensByHook s t := by
  obtain ⟨u, hu, rfl⟩ := settled_next h
  obtain ⟨-, rfl⟩ := exec_next hu
  rw [State.fetch_state]
  exact .followed (.after (.afterFetch _ s) (State.afterFetch_params _ s) (.opOf _ _ _)) (.settle _)

theorem hostStep {c : HostCall} {s t : State} (h : hostStep c s = .next t) : OpensByHook s t := by
  cases c
  case fastclock => exact .coreStep h
  case clock runs =>
    cases runs
    · cases h
      exact .inl ⟨rfl, rfl⟩
    · exact .coreStep h
  all_goals cases h
  case irq => exact .of_noHookCall (.irq s)
  case nmi => exact .of_noHookCall (.enterHandler _ _ _ s)
  case reset => exact .of_noHookCall (.hostReset s)
  case peek | poke | setpatch => exact .inl ⟨rfl, rfl⟩

/-- With no callback open, a step is the core's or a call of the schedule. -/
theorem step {s t : State} (ho : s.openCallbacks = []) (h : step s = .next t) : OpensByHook s t := by
  rcases hi : s.inputs with _ | ⟨c, rest⟩
  · exact .coreStep (step_idle ⟨ho, hi⟩ ▸ h)
  · have hd : Due c s { s with inputs := rest } := .inr ⟨ho, rest, hi, rfl⟩
    have hopens : OpensByHook { s with inputs := rest } t := .hostStep ((step_due hd).symm.trans h)
    exact hopens

end OpensByHook

/-- An entry loads PC from its vector. -/
theorem HandlerEntered.pc {ret vec : Word} {pushed : Byte} {s t : State} (h : HandlerEntered ret pushed vec s t) :
    t.pc = word ((s.afterRead vec).peekValue (vec + 1)) (s.peekValue vec) := by
  obtain ⟨-, -, -, -, -, hpc, -⟩ := h
  exact hpc

/-- Settles O60: call by call for PC, and the callback that opens is that of the one hook which can fire. -/
theorem onlyTheHookRedirectsControl : Obligations.OnlyTheHookRedirectsControl := by
  intro s t ho hwf hstep
  refine ⟨fun c rest hi => ?_, ?_⟩
  · have hd : Due c s { s with inputs := rest } := .inr ⟨ho, rest, hi, rfl⟩
    have h := (step_due hd).symm.trans hstep
    cases c with
    | fastclock => exact h
    | clock runs =>
      cases runs with
      | true => exact h
      | false => cases h; rfl
    | peek | poke | setpatch | reset => cases h; rfl
    | nmi => exact (of_exists_next (nmiIsAlwaysTaken s _ hd hwf) hstep).pc
    | irq =>
      cases hflag : s.flag .i with
      | true => cases hstep.symm.trans ((irqIsMaskedByI s _ hd).1 hflag); rfl
      | false => exact (of_exists_next ((irqIsMaskedByI s _ hd).2 hflag hwf) hstep).pc
  · rcases OpensByHook.step ho hstep with ⟨hopen, -⟩ | ⟨o, hopen, htarget, hhooks⟩
    · exact .inl (hopen.trans ho)
    · exact .inr ⟨o, hopen.trans (congrArg _ ho), htarget, hhooks⟩

end Sys2Proof.Machine
